-- ==== Sys2Proof/Word.lean ====
section
/-! DEFINITION. The words of the part: bytes and the index types of its links, slots and entries. -/

namespace Sys2Proof

/-- One byte of a frame or of a payload (Conventions: lengths are in bytes). -/
abbrev Byte := BitVec 8

/-- A controller link, CL0 to CL3 (Table I.1). -/
abbrev CtrlIx := Fin 4

/-- A slot 0 to 7, and with it its slot link SL0 to SL7 (Table I.1). -/
abbrev SlotIx := Fin 8

/-- An index of the Exchange Table, 0 to 63 (R1). -/
abbrev XtIx := Fin 64

/-- One of the part's twelve links (Section 11). -/
inductive LinkId
  | ctrl (l : CtrlIx)
  | slot (n : SlotIx)
  deriving DecidableEq, Repr

/-- A relay tag: an entry's index and generation (R8). -/
structure RelayTag where
  index : XtIx
  gen : BitVec 2
  deriving DecidableEq, Repr

end Sys2Proof
end

