-- ==== Sys2Proof/Syntax.lean ====
section
/-! DEFINITION. The commands: one constructor per row of spec/opcode_table.json, in the table's order.
A row of the table gives no operand; each constructor carries what names the event (a link, a slot, an entry)
and what the outside brings with it (the strap, a frame's bytes). Everything else is read from State. -/

namespace Sys2Proof

/-- The part's events, each one whole and indivisible step (file 95). -/
inductive Instr
  /-- HARDWARE_RESET (R22): RESET/ is released with MGRSEL[1:0] = strap (R143). -/
  | hardwareReset (strap : CtrlIx)
  /-- LINE_LOCK (R167): the receive line of link k locks. -/
  | lineLock (k : LinkId)
  /-- LINE_UNLOCK (R168): the receive line of link k loses lock. -/
  | lineUnlock (k : LinkId)
  /-- LINE_LOST (R168): the line-loss timer of link k expires. -/
  | lineLost (k : LinkId)
  /-- CREDIT_STALL (R172): the credit stall timer of link k expires. -/
  | creditStall (k : LinkId)
  /-- HELLO (R167, R168, R169): a HELLO frame arrives on link k; frame is its bytes, CRC included. -/
  | hello (k : LinkId) (frame : List Byte)
  /-- FRAME_RECEIVED (R169): a frame other than HELLO arrives on link k; frame is its bytes, CRC included. -/
  | frameReceived (k : LinkId) (frame : List Byte)
  /-- CREDIT (R170): a CREDIT frame with a good CRC and an empty body arrives on link k. -/
  | credit (k : LinkId) (count : Byte)
  /-- CMD_OFFERED (R24): link l takes a CMD out of its receive buffer and offers it. -/
  | cmdOffered (l : CtrlIx)
  /-- CMD (R26): the Admission Unit takes the next offered CMD in rotating order. -/
  | cmd
  /-- ABORT (R90): link l takes an ABORT out of its receive buffer. -/
  | abort (l : CtrlIx)
  /-- TAKE (R112): link l takes a RESV TAKE out of its receive buffer. -/
  | take (l : CtrlIx)
  /-- RENEW (R113): link l takes a RESV RENEW out of its receive buffer. -/
  | renew (l : CtrlIx)
  /-- DROP (R114): link l takes a RESV DROP out of its receive buffer. -/
  | drop (l : CtrlIx)
  /-- READ_IDENT (R158): link l takes this MGMT request out of its receive buffer. -/
  | readIdent (l : CtrlIx)
  /-- READ_ENTRY (R147). -/
  | readEntry (l : CtrlIx)
  /-- READ_SLOT (R141). -/
  | readSlot (l : CtrlIx)
  /-- READ_EXCHANGE (R20). -/
  | readExchange (l : CtrlIx)
  /-- READ_STORE (R76). -/
  | readStore (l : CtrlIx)
  /-- WRITE_ENTRY (R148). -/
  | writeEntry (l : CtrlIx)
  /-- REVERT (R149). -/
  | revert (l : CtrlIx)
  /-- ACTIVATE (R151). -/
  | activate (l : CtrlIx)
  /-- NOTICE_ACK (R132). -/
  | noticeAck (l : CtrlIx)
  /-- SLOT_CLEAR (R135). -/
  | slotClear (l : CtrlIx)
  /-- SLOT_RESET (R136). -/
  | slotReset (l : CtrlIx)
  /-- RELAY_RESTART (R159). -/
  | relayRestart (l : CtrlIx)
  /-- MGMT_UNKNOWN_REQUEST (R156). -/
  | mgmtUnknownRequest (l : CtrlIx)
  /-- ISSUE (R48): the Slot Scheduler of slot n issues its candidate, whose need is 0. -/
  | issue (n : SlotIx)
  /-- GENERAL_GRANT (R73): the general pool serves the oldest waiting candidate. -/
  | generalGrant
  /-- RESERVE_GRANT (R74): the reserve of link l serves that link's order head. -/
  | reserveGrant (l : CtrlIx)
  /-- OVERTAKING_ISSUE (R47): an order head of slot n's queue overtakes the waiting head. -/
  | overtakingIssue (n : SlotIx)
  /-- SLOT_LINK_SEND (R176): slot link n begins to send its next frame. -/
  | slotLinkSend (n : SlotIx)
  /-- ISSUE_SENT (R49): the last byte of an ISSUE leaves slot link n. -/
  | issueSent (n : SlotIx)
  /-- CANCEL_SENT (R176). -/
  | cancelSent (n : SlotIx)
  /-- KEEP_SENT (R176). -/
  | keepSent (n : SlotIx)
  /-- CREDIT_SENT (R171): the last byte of a CREDIT frame leaves link k. -/
  | creditSent (k : LinkId)
  /-- PARK (R54): slot link n takes a PARK out of its receive buffer. -/
  | park (n : SlotIx)
  /-- DONE (R57): slot link n takes a DONE out of its receive buffer. -/
  | done (n : SlotIx)
  /-- FAULT (R129): slot link n takes a FAULT out of its receive buffer. -/
  | fault (n : SlotIx)
  /-- DEADLINE_EXPIRY (R99): the deadline of entry i expires. -/
  | deadlineExpiry (i : XtIx)
  /-- ORPHAN_EXPIRY (R104): the expiry of slot n's orphan t passes. -/
  | orphanExpiry (n : SlotIx) (t : RelayTag)
  /-- LEASE_EXPIRY (R116): the lease of slot n's reservation expires. -/
  | leaseExpiry (n : SlotIx)
  /-- ACKNOWLEDGE_WINDOW_EXPIRY (R133): the acknowledge window of slot n expires. -/
  | acknowledgeWindowExpiry (n : SlotIx)
  /-- PULSE_END (R134): the reset pulse timer of slot n expires. -/
  | pulseEnd (n : SlotIx)
  /-- CONTROLLER_LINK_SEND (R175): controller link l begins to send its next frame. -/
  | controllerLinkSend (l : CtrlIx)
  /-- REPLY_SENT (R175): the last byte of a REPLY or refusal RESP leaves link l. -/
  | replySent (l : CtrlIx)
  /-- NOTICE_SENT (R163): the last byte of a NOTICE leaves link l. -/
  | noticeSent (l : CtrlIx)
  /-- RESP_SENT (R86): the last byte of a RESP leaves link l. -/
  | respSent (l : CtrlIx)
  deriving DecidableEq, Repr

end Sys2Proof
end

