-- ==== Sys2Proof/Decode.lean ====
section
/-! DEFINITION. The commands that words spell by the table's bits. No row of spec/opcode_table.json gives
bits ("fields" is empty in every row): no word spells a command. -/

namespace Sys2Proof

/-- The command the table's bits spell: none, for the table gives no row any bits. -/
def decodeTableWord (_nbits _w : Nat) : Option Instr := none

end Sys2Proof
end

