-- ==== Sys2Proof/Config.lean ====
section
/-! DEFINITION. The fixed capacities, lengths and times of the part (Table I.1).
The manual leaves no value open: there is no free value, so nothing here is opaque. -/

namespace Sys2Proof.Config

/-- Cycles of the 50 MHz REFCLK in one millisecond (Table 11.2). The model's unit of time is one cycle. -/
def cyclesPerMs : Nat := 50000

/-- Blocks of the Command Store (R65). -/
def commandBlocks : Nat := 128

/-- Blocks of the general pool of the Response Store (R65). -/
def generalBlocks : Nat := 112

/-- Blocks of each controller link's reserve (R65). -/
def reserveBlocks : Nat := 4

/-- Bytes in one store block (R65). -/
def blockBytes : Nat := 64

/-- The longest payload, and the largest maximum response length, the part accepts (R30). -/
def maxPayload : Nat := 256

/-- Receive buffer places of a Controller Link (R167). -/
def ctrlBufferPlaces : Nat := 8

/-- Receive buffer places of a Slot Link (R167). -/
def slotBufferPlaces : Nat := 4

/-- Places of a Reply Queue (R173). -/
def replyPlaces : Nat := 8

/-- Places of a Notice Queue (R162). -/
def noticePlaces : Nat := 16

/-- The most credits one frame header returns (R170). -/
def maxCreditReturn : Nat := 16

/-- The credit stall time, 100 ms, in cycles (R172). -/
def stallTime : Nat := 100 * cyclesPerMs

/-- The line loss time, 1 ms, in cycles (R168). -/
def lineLossTime : Nat := cyclesPerMs

/-- The slot reset pulse, 2 ms, in cycles (R134). -/
def pulseTime : Nat := 2 * cyclesPerMs

/-- The slack every timer has: it expires no later than 1 ms after its time (Table 11.2). -/
def timerSlack : Nat := cyclesPerMs

/-- The part code of READ_IDENT and of the relay's HELLO (R158, R167). -/
def partCode : Nat := 408

/-- The revision of READ_IDENT and of the relay's HELLO (R158, R167). -/
def revision : Nat := 2

end Sys2Proof.Config
end

