-- ==== Sys2Proof/Machine/State.lean ====
section
/-! DEFINITION. The state of the part as plain data, and the state after a hardware reset.
A field the manual gives only in some states of its owner stands in that state's constructor (R2). -/

namespace Sys2Proof.Machine

open Sys2Proof

/-! ## Codes and names -/

/-- The class of a command (Table 1.1). -/
inductive CmdClass
  | query
  | action
  deriving DecidableEq, Repr

/-- The outcome a card reports in a DONE (R59). -/
inductive DoneOutcome
  | completed
  | cancelled
  deriving DecidableEq, Repr

/-- A position a card holds: a window position or a parked position, under the names of Table 1.1. -/
inductive Position
  | active
  | parked
  deriving DecidableEq, Repr

/-- The pool of a response reservation; `reserve` is that of the entry's own link (Table 1.1). -/
inductive Pool
  | general
  | reserve
  deriving DecidableEq, Repr

/-- The relay codes of Table 12.3: those that refuse a CMD, then those that end an exchange. -/
inductive RelayCode
  | badLength | noSlot | noAccess | slotDisabled | slotUnavailable | reserved
  | tagInUse | openLimit | tableFull | queueFull | storeFull
  | aborted | timeout | slotFault | slotReset | slotOverrun | preempted | restarted
  deriving DecidableEq, Repr

/-- The request kinds of a REPLY (Table 12.1). -/
inductive RequestKind
  | abort | resv | mgmt
  deriving DecidableEq, Repr

/-- The reply results of Table 12.3. -/
inductive ReplyResult
  | ok | taken | unknown | tooLate | repeated | granted | queued | renewed | dropped
  | notHolder | noSlot | noAccess | notManager | badRequest | badValue | noManager
  | twoManagers | managerDown | wrongState | noticeUnknown
  deriving DecidableEq, Repr

/-- The notice kinds of Table 12.3. -/
inductive NoticeKind
  | resvGranted | resvRevoked | waitEnded | tableActivated | slotFault
  | slotEscalated | slotOnline | linkDown | linkUp
  deriving DecidableEq, Repr

/-- The notice causes of Table 12.3. -/
inductive NoticeCause
  | none | lease | slotReset | restart | access | faultFrame | linkLost
  | orphanExpired | lineLost | creditViolation | creditStall | partnerRestart
  deriving DecidableEq, Repr

/-- The kinds of a RESV request (R111). -/
inductive ResvKind
  | take | renew | drop
  deriving DecidableEq, Repr

/-- The states of a link (R167). -/
inductive LinkState
  | down | waitHello | up
  deriving DecidableEq, Repr

/-- The values of the Access Table (Table 9.2). -/
inductive Access
  | none | query | full
  deriving DecidableEq, Repr

/-! ## Frames the relay has received, and what it will send -/

/-- A well-formed CMD frame (Table 12.1). Its lengths may be above the range the relay accepts (R30). -/
structure CmdFrame where
  tag : Byte
  slotAddr : Byte
  cls : CmdClass
  ordered : Bool
  maxResp : Nat
  payload : List Byte
  deriving DecidableEq, Repr

/-- A well-formed DONE frame (Table 12.1). -/
structure DoneFrame where
  tag : RelayTag
  outcome : DoneOutcome
  status : Byte
  payload : List Byte
  deriving DecidableEq, Repr

/-- A frame that passed the checks of R169 and stands in a receive buffer (Table 11.1). -/
inductive RxFrame
  | cmd (c : CmdFrame)
  | abort (tag : Byte)
  | resv (tag : Byte) (kind : ResvKind) (slotAddr : Byte)
  | mgmt (tag : Byte) (code : Byte) (args : List Byte)
  | done (d : DoneFrame)
  | park (tag : RelayTag)
  | fault (code : Byte)
  deriving DecidableEq, Repr

/-- An entry of a Reply Queue: a REPLY or a refusal RESP (R175). -/
inductive ReplyItem
  | reply (tag : Byte) (kind : RequestKind) (result : ReplyResult) (data : List Byte)
  | refusal (tag : Byte) (code : RelayCode)
  deriving DecidableEq, Repr

/-- A notice; its lost-before flag is set only as it leaves (R160, R163). -/
structure Notice where
  id : Byte
  kind : NoticeKind
  subject : Byte
  cause : NoticeCause
  data : List Byte
  deriving DecidableEq, Repr

/-- A frame of a Slot Send Queue (R50). -/
inductive SlotFrame
  | issue (t : RelayTag)
  | cancel (t : RelayTag)
  | keep (t : RelayTag)
  deriving DecidableEq, Repr

/-- The frame a link is sending: the head of a queue, which stays there until its last byte has gone
(R175, R176), or a CREDIT frame. -/
inductive Sending
  | reply
  | notice (lostBefore : Bool)
  | resp
  | slotFrame (f : SlotFrame)
  | credit
  deriving DecidableEq, Repr

/-! ## The Exchange Table -/

/-- The eight identity fields of an entry (R2). -/
structure Identity where
  link : CtrlIx
  tag : Byte
  slot : SlotIx
  cls : CmdClass
  ordered : Bool
  admission : BitVec 32
  cmdLen : Nat
  maxResp : Nat
  deriving DecidableEq, Repr

/-- The command blocks of an entry: their count and the payload they hold (R3). -/
structure CmdSpace where
  blocks : Nat
  payload : List Byte
  deriving DecidableEq, Repr

/-- The response reservation of an entry: block count and pool (R4). -/
structure RespSpace where
  blocks : Nat
  pool : Pool
  deriving DecidableEq, Repr

/-- A slot-origin response record, with the payload its reservation holds (R6, Table 1.2).
The payload length is the length of `payload`. -/
structure SlotAnswer where
  outcome : DoneOutcome
  status : Byte
  lateAbort : Bool
  payload : List Byte
  space : RespSpace
  deriving DecidableEq, Repr

/-- A response record (R6, Table 1.2). -/
inductive Response
  | slot (a : SlotAnswer)
  | relay (code : RelayCode)
  deriving DecidableEq, Repr

/-- The six live states of an entry with the fields each has (Table 1.1, Table 1.3). In `active`,
`cmd` is present exactly while issue sent = no (R3, R5). Deadlines are instants in cycles. -/
inductive Phase
  | queued (cmd : CmdSpace)
  | active (cmd : Option CmdSpace) (space : RespSpace) (deadline : Nat)
  | parked (space : RespSpace) (deadline : Nat)
  | cancelling (space : RespSpace) (deadline : Nat) (former : Position)
  | held (r : Response)
  | released (r : Response)
  deriving DecidableEq, Repr

/-- A live exchange: its identity fields and its state. -/
structure Exchange where
  id : Identity
  phase : Phase
  deriving DecidableEq, Repr

/-- An entry of the Exchange Table; FREE when `live` is none (R1). -/
structure Entry where
  gen : BitVec 2
  live : Option Exchange
  deriving DecidableEq, Repr

/-! ## Links -/

/-- What every link holds (Section 11). `lineTimer` and `stall` are the expiry instants of its two timers.
`announced` is the receive-buffer size of the partner's last HELLO (R170). `locked` is the condition of the
receive line (Section 11.8). `txLine` is the model's own: the bytes of the frame the link last put on its
transmit line. -/
structure LinkBlock where
  state : LinkState
  locked : Bool
  lineTimer : Option Nat
  buffer : List RxFrame
  held : Nat
  announced : Nat
  owedCredit : Nat
  owedOther : Nat
  stall : Option Nat
  sending : Option Sending
  txLine : List Byte
  deriving DecidableEq, Repr

/-- A Controller Link with its queues, its Order List and its offer to the Admission Unit
(R24, R77, R83, R162, R173). -/
structure CtrlBlock where
  link : LinkBlock
  replyQ : List ReplyItem
  noticeQ : List Notice
  lost : Bool
  releaseQ : List XtIx
  orderList : List XtIx
  offered : Option CmdFrame
  deriving DecidableEq, Repr

/-! ## Slots -/

/-- A record of an Orphan Set (R102). -/
structure Orphan where
  tag : RelayTag
  former : Position
  expiry : Nat
  deriving DecidableEq, Repr

/-- A slot's reservation record (Table 7.1). -/
structure Reservation where
  holder : Option CtrlIx
  lease : Option Nat
  waiting : List CtrlIx
  deriving DecidableEq, Repr

/-- The awaited notice id and the acknowledge window expiry, present together (Table 8.1). -/
structure Awaited where
  id : Byte
  window : Nat
  deriving DecidableEq, Repr

/-- The slot states with the fields each has (Table 8.1). -/
inductive SlotState
  | offline
  | online
  | faulted (awaited : Option Awaited)
  | resetting (pulse : Nat)
  deriving DecidableEq, Repr

/-- The last fault cause, with the code of a FAULT frame (Table 8.1). -/
inductive LastFault
  | none
  | faultFrame (code : Byte)
  | linkLost
  | orphanExpired
  deriving DecidableEq, Repr

/-- A slot: its link, Slot Queue, Slot Send Queue, Orphan Set, reservation record and state record
(R41, R50, R102, R109, R126). -/
structure SlotBlock where
  link : LinkBlock
  queue : List XtIx
  sendQ : List SlotFrame
  orphans : List Orphan
  resv : Reservation
  state : SlotState
  lastFault : LastFault
  deriving DecidableEq, Repr

/-! ## Configuration tables -/

/-- A Slot Table entry (Table 9.1), its times in their own units. -/
structure SlotConfig where
  enabled : Bool
  window : Nat
  parkedLimit : Nat
  queueLimit : Nat
  activeDeadline : Nat
  parkedDeadline : Nat
  lease : Nat
  deriving DecidableEq, Repr

/-- A Controller Table entry (Table 9.3). -/
structure CtrlConfig where
  openLimit : Nat
  manager : Bool
  deriving DecidableEq, Repr

/-- The Relay Parameters entry (Table 9.4). -/
structure Params where
  ackWindow : Nat
  orphanDeadline : Nat
  deriving DecidableEq, Repr

/-- One bank of the configuration tables (R142). -/
structure Bank where
  slotTable : Vector SlotConfig 8
  access : Vector Access 32
  control : Vector CtrlConfig 4
  params : Params
  deriving DecidableEq, Repr

/-! ## Causes that wait for an ISSUE in transit -/

/-- Why a link leaves UP (R168); a partner restart keeps the partner's new receive-buffer size. -/
inductive DepartCause
  | lineLost
  | creditViolation
  | creditStall
  | partnerRestart (size : Nat)
  deriving DecidableEq, Repr

/-- A cause that waits until an ISSUE in transit has left or is lost (R97). -/
inductive WaitingCause
  | abort (l : CtrlIx) (tag : Byte) (i : XtIx)
  | deadline (i : XtIx)
  | done (n : SlotIx) (d : DoneFrame)
  | departure (l : CtrlIx) (cause : DepartCause)
  | restart (l : CtrlIx) (tag : Byte)
  | slotReset (l : CtrlIx) (tag : Byte) (n : SlotIx)
  | faultFrame (n : SlotIx) (code : Byte)
  | orphanExpired (n : SlotIx) (t : RelayTag)
  deriving DecidableEq, Repr

/-! ## The machine -/

end Sys2Proof.Machine

namespace Sys2Proof.Machine

/-- The whole part. Instants are counted in cycles of REFCLK (`now` is the present one). `pending` is the
queue of commands that wait, first in, first out; it is the model's own. -/
structure State where
  now : Nat
  pending : List Instr
  /-- the Exchange Table (R1) -/
  entries : Vector Entry 64
  /-- the admission order of the table, oldest first (R14) -/
  admissionOrder : List XtIx
  /-- the admission counter (R23) -/
  admissionCounter : BitVec 32
  /-- the rotation pointer (R23) -/
  rotation : CtrlIx
  /-- free blocks of the Command Store (R66) -/
  cmdFree : Nat
  /-- free blocks of the general pool (R68) -/
  generalFree : Nat
  /-- free blocks of each link's reserve (R68) -/
  reserveFree : Vector Nat 4
  /-- the Controller Links -/
  ctrls : Vector CtrlBlock 4
  /-- the slots -/
  slots : Vector SlotBlock 8
  /-- the staged bank (R142) -/
  staged : Bank
  /-- the active bank (R142) -/
  active : Bank
  /-- the table epoch (R152) -/
  epoch : BitVec 16
  /-- the notice id counter (R161) -/
  noticeId : Byte
  /-- causes that wait for an ISSUE in transit, in the order in which they arose (R97) -/
  waiting : List WaitingCause
  deriving DecidableEq, Repr

/-- Reasons a step stops with a fault: none. The manual gives every event an effect, and no behaviour of the
part is undefined, so no meaning raises a fault (safe: nothing is cut off). -/
inductive Fault
  deriving DecidableEq, Repr

/-- Reasons a step is refused. -/
inductive Refusal
  /-- Raised only by an arm of `exec` for a command that has no meaning yet; safe. No arm raises it. -/
  | notModelled (mnemonic : String)
  deriving DecidableEq, Repr

/-! ## The state after a hardware reset -/

/-- A link after a hardware reset: DOWN, empty, no credits, no timer, sending nothing (R167). -/
def LinkBlock.reset : LinkBlock where
  state := .down
  locked := false
  lineTimer := none
  buffer := []
  held := 0
  announced := 0
  owedCredit := 0
  owedOther := 0
  stall := none
  sending := none
  txLine := []

/-- A Controller Link after a hardware reset (R77, R83, R162, R167, R23). -/
def CtrlBlock.reset : CtrlBlock where
  link := LinkBlock.reset
  replyQ := []
  noticeQ := []
  lost := false
  releaseQ := []
  orderList := []
  offered := none

/-- A reservation record with no holder (R109). -/
def Reservation.empty : Reservation where
  holder := none
  lease := none
  waiting := []

/-- A slot after a hardware reset (R41, R50, R102, R109, R126). -/
def SlotBlock.reset : SlotBlock where
  link := LinkBlock.reset
  queue := []
  sendQ := []
  orphans := []
  resv := Reservation.empty
  state := .offline
  lastFault := .none

/-- The default Slot Table entry (Table 9.1). -/
def SlotConfig.default : SlotConfig where
  enabled := true
  window := 1
  parkedLimit := 4
  queueLimit := 16
  activeDeadline := 100
  parkedDeadline := 50
  lease := 0

/-- The default bank, with the strapped link as manager (R143, Tables 9.1 to 9.4). -/
def Bank.default (strap : CtrlIx) : Bank where
  slotTable := Vector.replicate 8 SlotConfig.default
  access := Vector.replicate 32 .full
  control := Vector.ofFn fun l => { openLimit := 16, manager := decide (l = strap) }
  params := { ackWindow := 5, orphanDeadline := 10 }

/-- The part after a hardware reset at whose release the strap MGRSEL[1:0] names `strap`
(R22, R23, R65, R143, R152, R161). -/
def State.resetWith (strap : CtrlIx) : State where
  now := 0
  pending := []
  entries := Vector.replicate 64 { gen := 0, live := none }
  admissionOrder := []
  admissionCounter := 0
  rotation := 3
  cmdFree := Config.commandBlocks
  generalFree := Config.generalBlocks
  reserveFree := Vector.replicate 4 Config.reserveBlocks
  ctrls := Vector.replicate 4 CtrlBlock.reset
  slots := Vector.replicate 8 SlotBlock.reset
  staged := Bank.default strap
  active := Bank.default strap
  epoch := 0
  noticeId := 0
  waiting := []

/-- The part right after a hardware reset. DESIGN CHOICE (log 2): the strap names CL0; the command
HARDWARE_RESET brings every other strap. Unsafe: a claim may lean on the manager being CL0. -/
def State.reset : State := State.resetWith 0

end Sys2Proof.Machine
end

