-- ==== Sys2Proof/Machine/Flags.lean ====
section
/-! DEFINITION. What the blocks read off the state and do not keep: counts, fences, order heads, candidates,
entries in transit, the manager link, usable credits, the running timers. -/

namespace Sys2Proof.Machine

open Sys2Proof

/-! ## Access to the parts of the state -/

/-- The entry at an index (R1). -/
def State.entry (s : State) (i : XtIx) : Entry := s.entries[i]

/-- The live exchange at an index, none when the entry is FREE (R1). -/
def State.exchange (s : State) (i : XtIx) : Option Exchange := (s.entry i).live

/-- A Controller Link. -/
def State.ctrl (s : State) (l : CtrlIx) : CtrlBlock := s.ctrls[l]

/-- A slot. -/
def State.slot (s : State) (n : SlotIx) : SlotBlock := s.slots[n]

/-- A link. -/
def State.link (s : State) : LinkId → LinkBlock
  | .ctrl l => (s.ctrl l).link
  | .slot n => (s.slot n).link

/-- Free blocks of a link's reserve (R68). -/
def State.reserve (s : State) (l : CtrlIx) : Nat := s.reserveFree[l]

/-- A slot's entry in the active Slot Table (R144). -/
def State.slotConfig (s : State) (n : SlotIx) : SlotConfig := s.active.slotTable[n]

/-- A link's entry in the active Controller Table (R146). -/
def State.ctrlConfig (s : State) (l : CtrlIx) : CtrlConfig := s.active.control[l]

/-- The index 8 × c + s of an Access Table entry (R145). -/
def accessIndex (l : CtrlIx) (n : SlotIx) : Fin 32 := ⟨8 * l.val + n.val, by omega⟩

/-- The active access value of a link for a slot (R145). -/
def State.access (s : State) (l : CtrlIx) (n : SlotIx) : Access := s.active.access[accessIndex l n]

/-! ## Blocks and exchanges -/

/-- The block count of a length (R3, Table 4.1). -/
def blockCount (len : Nat) : Nat := (len + (Config.blockBytes - 1)) / Config.blockBytes

/-- The need of an exchange: the block count of its maximum response length (R46). -/
def Exchange.need (x : Exchange) : Nat := blockCount x.id.maxResp

/-- The exchange is QUEUED. -/
def Exchange.isQueued (x : Exchange) : Bool :=
  match x.phase with
  | .queued _ => true
  | _ => false

/-- The exchange is HELD. -/
def Exchange.isHeld (x : Exchange) : Bool :=
  match x.phase with
  | .held _ => true
  | _ => false

/-- The exchange has ended and waits for its RESP: HELD or RELEASED. -/
def Exchange.isEnded (x : Exchange) : Bool :=
  match x.phase with
  | .held _ | .released _ => true
  | _ => false

/-- The position of a slot an exchange holds, if any (R43, R44, Table 1.3). -/
def Exchange.position (x : Exchange) : Option Position :=
  match x.phase with
  | .active _ _ _ => some .active
  | .parked _ _ => some .parked
  | .cancelling _ _ former => some former
  | _ => none

/-- The deadline of an exchange, in ACTIVE, PARKED and CANCELLING (R5). -/
def Exchange.deadline (x : Exchange) : Option Nat :=
  match x.phase with
  | .active _ _ d | .parked _ d | .cancelling _ d _ => some d
  | _ => none

/-- The command blocks an exchange holds, if it has the field (R3). -/
def Exchange.cmdSpace (x : Exchange) : Option CmdSpace :=
  match x.phase with
  | .queued c => some c
  | .active c _ _ => c
  | _ => none

/-- The response reservation of an exchange, if it has the field (R4). -/
def Exchange.respSpace (x : Exchange) : Option RespSpace :=
  match x.phase with
  | .active _ r _ | .parked r _ | .cancelling r _ _ => some r
  | .held (.slot a) | .released (.slot a) => some a.space
  | _ => none

/-- Issued with its ISSUE sent and not ended: the slot side lives on as an orphan if the controller side goes
(R16, R18). -/
def Exchange.orphans (x : Exchange) : Option Position :=
  match x.phase with
  | .active none _ _ => some .active
  | .parked _ _ => some .parked
  | .cancelling _ _ former => some former
  | _ => none

/-! ## Counts and fences -/

/-- How many positions of a kind a slot's entries and orphans hold (R43, R44). -/
def State.positions (s : State) (n : SlotIx) (p : Position) : Nat :=
  s.entries.toList.countP (fun e => match e.live with
    | some x => x.id.slot == n && x.position == some p
    | none => false)
  + (s.slot n).orphans.countP (fun o => o.former == p)

/-- The window-holding count (R43). -/
def State.windowCount (s : State) (n : SlotIx) : Nat := s.positions n .active

/-- The parked count (R44). -/
def State.parkedCount (s : State) (n : SlotIx) : Nat := s.positions n .parked

/-- An index is fenced while any Orphan Set holds an orphan with it (R12). -/
def State.fenced (s : State) (i : XtIx) : Bool :=
  s.slots.toList.any fun b => b.orphans.any fun o => o.tag.index == i

/-- The lowest index that is FREE and not fenced (R13). -/
def State.allocatable (s : State) : Option XtIx :=
  (List.finRange 64).find? fun i => (s.exchange i).isNone && !s.fenced i

/-- How many live entries a link has (R35). -/
def State.liveCount (s : State) (l : CtrlIx) : Nat :=
  s.entries.toList.countP fun e => match e.live with
    | some x => x.id.link == l
    | none => false

/-- The live entry of a link that holds a controller tag (R1, R11). -/
def State.tagged (s : State) (l : CtrlIx) (tag : Byte) : Option XtIx :=
  (List.finRange 64).find? fun i => match s.exchange i with
    | some x => x.id.link == l && x.id.tag == tag
    | none => false

/-- The relay tag of an index at present (R8). -/
def State.relayTag (s : State) (i : XtIx) : RelayTag := { index := i, gen := (s.entry i).gen }

/-! ## Order heads, candidates and reserves -/

/-- The order head of a link (R78). -/
def State.orderHead (s : State) (l : CtrlIx) : Option XtIx := (s.ctrl l).orderList.head?

/-- The exchange at an index is the order head of its link. -/
def State.isOrderHead (s : State) (i : XtIx) : Bool :=
  match s.exchange i with
  | some x => s.orderHead x.id.link == some i
  | none => false

/-- A link's reserve is free when all its blocks are (R68). -/
def State.reserveIsFree (s : State) (l : CtrlIx) : Bool := s.reserve l == Config.reserveBlocks

/-- The issue candidate of a slot (R45). -/
def State.candidate (s : State) (n : SlotIx) : Option XtIx :=
  if (s.slot n).state = .online ∧ (s.slotConfig n).enabled
      ∧ s.windowCount n < (s.slotConfig n).window then
    (s.slot n).queue.head?
  else none

/-- The waiting candidate of a slot: its candidate, while its need is 1 to 4 (R46, R72). -/
def State.waitingCandidate (s : State) (n : SlotIx) : Option XtIx :=
  match s.candidate n with
  | some i =>
    match s.exchange i with
    | some x => if 0 < x.need then some i else none
    | none => none
  | none => none

/-- The exchange at an index is a waiting candidate. -/
def State.isWaiting (s : State) (i : XtIx) : Bool :=
  match s.exchange i with
  | some x => s.waitingCandidate x.id.slot == some i
  | none => false

/-- The oldest waiting candidate, by the admission order of the table (R72). -/
def State.oldestWaiting (s : State) : Option XtIx := s.admissionOrder.find? s.isWaiting

/-- The exchange the general pool grants at this moment: the oldest waiting candidate, when its need fits (R73). -/
def State.generalServes (s : State) : Option XtIx :=
  match s.oldestWaiting with
  | some i =>
    match s.exchange i with
    | some x => if x.need ≤ s.generalFree then some i else none
    | none => none
  | none => none

/-- The exchange that may overtake at a slot: behind a waiting head, the one nearest the head that is the order
head of its link and whose link's reserve is free (R47). DEDUCED (log 29): a waiting head that is itself an order head
may be overtaken by the order head of another link, even while the reserve of the head's own link is free. -/
def State.overtaker (s : State) (n : SlotIx) : Option XtIx :=
  match s.waitingCandidate n with
  | some _ =>
    (s.slot n).queue.tail.find? fun i => match s.exchange i with
      | some x => s.orderHead x.id.link == some i && s.reserveIsFree x.id.link
      | none => false
  | none => none

/-! ## Transit and waiting causes -/

/-- The index whose ISSUE slot link n is sending (R97). -/
def State.transitOf (s : State) (n : SlotIx) : Option XtIx :=
  match (s.slot n).link.sending with
  | some (.slotFrame (.issue t)) => some t.index
  | _ => none

/-- An entry is in transit while its ISSUE is being sent (R97). -/
def State.inTransit (s : State) (i : XtIx) : Bool :=
  (List.finRange 8).any fun n => s.transitOf n == some i

/-- The entries a cause of several entries reaches (R97). The causes of one entry hold back no ISSUE: their
entry's own is already leaving. -/
def WaitingCause.reaches (w : WaitingCause) (x : Exchange) : Bool :=
  match w with
  | .departure l _ => x.id.link == l
  | .restart _ _ => true
  | .slotReset _ _ n | .faultFrame n _ | .orphanExpired n _ => x.id.slot == n
  | .abort _ _ _ | .deadline _ | .done _ _ => false

/-- Some entry in transit is reached by a cause of several entries. -/
def State.transitReached (s : State) (w : WaitingCause) : Bool :=
  (List.finRange 8).any fun n => match s.transitOf n with
    | some i =>
      match s.exchange i with
      | some x => w.reaches x
      | none => false
    | none => false

/-- A cause still waits: an ISSUE in transit it waits for has neither left nor been lost (R97). -/
def State.mustWait (s : State) (w : WaitingCause) : Bool :=
  match w with
  | .abort _ _ i | .deadline i => s.inTransit i
  | .done _ d => s.inTransit d.tag.index
  | .departure _ _ | .restart _ _ | .slotReset _ _ _ | .faultFrame _ _ | .orphanExpired _ _ =>
    s.transitReached w

/-- The exchange's ISSUE is not begun while a cause of several entries that reaches it waits (R97, R176). -/
def State.heldBack (s : State) (i : XtIx) : Bool :=
  match s.exchange i with
  | some x => s.waiting.any fun w => w.reaches x
  | none => false

/-- A Controller Link's departure from UP waits (R168). -/
def State.departing (s : State) (l : CtrlIx) : Bool :=
  s.waiting.any fun w => match w with
    | .departure l' _ => l' == l
    | _ => false

/-- An ABORT or MGMT of a controller link waits for an ISSUE in transit (R173). -/
def State.ctrlWaits (s : State) (l : CtrlIx) : Bool :=
  s.waiting.any fun w => match w with
    | .abort l' _ _ | .restart l' _ | .slotReset l' _ _ => l' == l
    | _ => false

/-- A DONE or FAULT of a slot link waits for an ISSUE in transit (R174). -/
def State.slotWaits (s : State) (n : SlotIx) : Bool :=
  s.waiting.any fun w => match w with
    | .done n' _ | .faultFrame n' _ => n' == n
    | _ => false

/-! ## The manager and the outputs -/

/-- The manager link: the one the active Controller Table marks (R157). -/
def State.manager (s : State) : Option CtrlIx :=
  (List.finRange 4).find? fun l => (s.ctrlConfig l).manager

/-- A link is the manager link (R157). -/
def State.isManager (s : State) (l : CtrlIx) : Bool := (s.ctrlConfig l).manager

/-- The output SLOTRST/n is driven low exactly while the slot is RESETTING (R140). -/
def State.slotResetLow (s : State) (n : SlotIx) : Bool :=
  match (s.slot n).state with
  | .resetting _ => true
  | _ => false

/-! ## Credits -/

/-- All the credits a link owes (R170). -/
def LinkBlock.owed (b : LinkBlock) : Nat := b.owedCredit + b.owedOther

/-- A link holds a credit it may use: with exactly one held, only for a frame that returns a credit, unless the
partner announced a buffer of 1 (R170). -/
def LinkBlock.canUseCredit (b : LinkBlock) : Bool :=
  decide (2 ≤ b.held) || (b.held == 1 && (decide (1 ≤ b.owed) || b.announced == 1))

/-- A frame of a Controller Link waits in a queue, not yet begun (R172). -/
def CtrlBlock.frameWaits (b : CtrlBlock) : Bool :=
  decide ((match b.link.sending with
    | some .reply | some (.notice _) | some .resp => 1
    | _ => 0) < b.replyQ.length + b.noticeQ.length + b.releaseQ.length)

/-- The head of the Slot Send Queue is being sent (R176). -/
def SlotBlock.sendingHead (b : SlotBlock) : Bool :=
  match b.link.sending, b.sendQ with
  | some (.slotFrame f), g :: _ => f == g
  | _, _ => false

/-- A frame of a Slot Link waits in its queue, not yet begun (R172). -/
def SlotBlock.frameWaits (b : SlotBlock) : Bool :=
  decide ((if b.sendingHead then 1 else 0) < b.sendQ.length)

/-- The condition under which a credit stall timer runs (R172, log 10). -/
def LinkBlock.stalls (b : LinkBlock) (frameWaits departing : Bool) : Bool :=
  b.state == .up && !departing && frameWaits && !b.canUseCredit

/-! ## Timers -/

/-- Whole milliseconds from now to an expiry instant, rounded down, 0 once it has passed (R21, R141). -/
def State.msLeft (s : State) (expiry : Nat) : Nat := (expiry - s.now) / Config.cyclesPerMs

/-- The running timers of one link, each with its expiry instant and the command that takes it. -/
def LinkBlock.timers (k : LinkId) (b : LinkBlock) : List (Nat × Instr) :=
  (b.lineTimer.toList.map fun t => (t, .lineLost k)) ++ (b.stall.toList.map fun t => (t, .creditStall k))

/-- The running deadline of an entry; one whose expiry already waits for a transit has expired (R97, R98). -/
def State.deadlineTimer (s : State) (i : XtIx) : Option Nat :=
  match s.exchange i with
  | some x => if .deadline i ∈ s.waiting then none else x.deadline
  | none => none

/-- The running timers of one slot, its link's aside. -/
def State.slotTimers (s : State) (n : SlotIx) : List (Nat × Instr) :=
  let b := s.slot n
  ((b.orphans.filter fun o => .orphanExpired n o.tag ∉ s.waiting).map fun o => (o.expiry, .orphanExpiry n o.tag))
  ++ (b.resv.lease.toList.map fun t => (t, .leaseExpiry n))
  ++ (match b.state with
    | .faulted (some a) => [(a.window, .acknowledgeWindowExpiry n)]
    | .resetting pulse => [(pulse, .pulseEnd n)]
    | _ => [])

/-- Every running timer of the part: deadlines (R98), orphan expiries (R102), leases (R115), acknowledge
windows (R131), reset pulses (R134), line-loss and credit stall timers (R168, R172). -/
def State.timers (s : State) : List (Nat × Instr) :=
  ((List.finRange 64).flatMap fun i => (s.deadlineTimer i).toList.map fun t => (t, .deadlineExpiry i))
  ++ ((List.finRange 8).flatMap fun n => s.slotTimers n ++ (s.slot n).link.timers (.slot n))
  ++ ((List.finRange 4).flatMap fun l => (s.ctrl l).link.timers (.ctrl l))

/-- Time may pass to an instant: no running timer would be left more than its 1 ms slack behind (Table 11.2). -/
def State.mayPassTo (s : State) (t : Nat) : Bool :=
  decide (t ≤ s.now) || s.timers.all fun e => decide (t ≤ e.1 + Config.timerSlack)

end Sys2Proof.Machine
end

