-- ==== Sys2Proof/WellFormed.lean ====
section
/-! DEFINITION. Which commands are well formed. The index types already bound links, slots and entries. -/

namespace Sys2Proof

/-- The frame kind code of HELLO (Table 12.2). -/
def helloKind : Byte := 0x01

/-- The longest frame a body length field can declare: header, 65535 bytes of body, CRC (R177). -/
def maxFrameBytes : Nat := 4 + 65535 + 2

/-- A HELLO command brings a frame of kind HELLO, a FRAME_RECEIVED command one of another kind (the rows'
own words), and a CREDIT command a credit return count the header allows (R177). -/
def Instr.wellFormed : Instr → Bool
  | .hello _ frame => frame.head? == some helloKind && frame.length ≤ maxFrameBytes
  | .frameReceived _ frame => frame.head? != some helloKind && frame.length ≤ maxFrameBytes
  | .credit _ count => count.toNat ≤ 16
  | .hardwareReset _ | .lineLock _ | .lineUnlock _ | .lineLost _ | .creditStall _ => true
  | .cmdOffered _ | .cmd | .abort _ | .take _ | .renew _ | .drop _ => true
  | .readIdent _ | .readEntry _ | .readSlot _ | .readExchange _ | .readStore _ | .writeEntry _ => true
  | .revert _ | .activate _ | .noticeAck _ | .slotClear _ | .slotReset _ | .relayRestart _ => true
  | .mgmtUnknownRequest _ | .issue _ | .generalGrant | .reserveGrant _ | .overtakingIssue _ => true
  | .slotLinkSend _ | .issueSent _ | .cancelSent _ | .keepSent _ | .creditSent _ => true
  | .park _ | .done _ | .fault _ | .deadlineExpiry _ | .orphanExpiry _ _ | .leaseExpiry _ => true
  | .acknowledgeWindowExpiry _ | .pulseEnd _ | .controllerLinkSend _ | .replySent _ => true
  | .noticeSent _ | .respSent _ => true

end Sys2Proof
end

