-- ==== Sys2Proof/Machine/Operands.lean ====
section
/-! DEFINITION. The operand forms: the byte layouts of frames and table entries (Section 12), the CRC, and the
checks a received frame passes at arrival (R169, R177 to R181). -/

namespace Sys2Proof.Machine

open Sys2Proof

/-! ## Numbers as bytes -/

/-- A byte that carries a number (R177). -/
def byteOf (n : Nat) : Byte := BitVec.ofNat 8 n

/-- Two bytes, most significant first (R177). -/
def be16 (n : Nat) : List Byte := [byteOf (n / 256), byteOf n]

/-- Four bytes, most significant first (R177). -/
def be32 (n : Nat) : List Byte := be16 (n / 65536) ++ be16 n

/-- The number that two bytes carry (R177). -/
def nat16 (hi lo : Byte) : Nat := hi.toNat * 256 + lo.toNat

/-- 00h no, 01h yes (Section 12). -/
def boolByte (b : Bool) : Byte := if b then 1 else 0

/-- The yes-or-no field a byte carries, if its code is one of the two (R180). -/
def boolOfByte (b : Byte) : Option Bool :=
  if b = 0 then some false else if b = 1 then some true else none

/-! ## CRC -/

/-- One bit of the CRC: shift left, and subtract the polynomial 1021h when a one falls out (R177). -/
def crcBit (c : BitVec 16) : BitVec 16 :=
  if c.msb then (c <<< 1) ^^^ 0x1021#16 else c <<< 1

/-- One byte of the CRC, most significant bit first (R177). -/
def crcByte (c : BitVec 16) (b : Byte) : BitVec 16 :=
  let c0 := c ^^^ (b.setWidth 16 <<< 8)
  crcBit (crcBit (crcBit (crcBit (crcBit (crcBit (crcBit (crcBit c0)))))))

/-- CRC-16 with polynomial 1021h and initial value FFFFh, no reflection, no final inversion (R177). -/
def crc16 (bytes : List Byte) : BitVec 16 := bytes.foldl crcByte 0xFFFF#16

/-- A whole frame: kind, credit return count, body length, body, CRC (R177). -/
def frameBytes (kind : Byte) (count : Nat) (body : List Byte) : List Byte :=
  let head := kind :: byteOf count :: (be16 body.length ++ body)
  head ++ be16 (crc16 head).toNat

/-! ## Code values (Tables 12.2 to 12.4) -/

/-- CREDIT, Table 12.2. -/
def creditKind : Byte := 0x02
/-- CMD, Table 12.2. -/
def cmdKind : Byte := 0x10
/-- ABORT, Table 12.2. -/
def abortKind : Byte := 0x11
/-- RESV, Table 12.2. -/
def resvKind : Byte := 0x12
/-- MGMT, Table 12.2. -/
def mgmtKind : Byte := 0x13
/-- RESP, Table 12.2. -/
def respKind : Byte := 0x20
/-- REPLY, Table 12.2. -/
def replyKind : Byte := 0x21
/-- NOTICE, Table 12.2. -/
def noticeKind : Byte := 0x22
/-- ISSUE, Table 12.2. -/
def issueKind : Byte := 0x30
/-- CANCEL, Table 12.2. -/
def cancelKind : Byte := 0x31
/-- KEEP, Table 12.2. -/
def keepKind : Byte := 0x32
/-- DONE, Table 12.2. -/
def doneKind : Byte := 0x40
/-- PARK, Table 12.2. -/
def parkKind : Byte := 0x41
/-- FAULT, Table 12.2. -/
def faultKind : Byte := 0x42

/-- Relay codes, Table 12.3. -/
def RelayCode.byte : RelayCode → Byte
  | .badLength => 0x01
  | .noSlot => 0x02
  | .noAccess => 0x03
  | .slotDisabled => 0x04
  | .slotUnavailable => 0x05
  | .reserved => 0x06
  | .tagInUse => 0x07
  | .openLimit => 0x08
  | .tableFull => 0x09
  | .queueFull => 0x0A
  | .storeFull => 0x0B
  | .aborted => 0x10
  | .timeout => 0x11
  | .slotFault => 0x12
  | .slotReset => 0x13
  | .slotOverrun => 0x14
  | .preempted => 0x15
  | .restarted => 0x16

/-- Reply results, Table 12.3. -/
def ReplyResult.byte : ReplyResult → Byte
  | .ok => 0x00
  | .taken => 0x01
  | .unknown => 0x02
  | .tooLate => 0x03
  | .repeated => 0x04
  | .granted => 0x05
  | .queued => 0x06
  | .renewed => 0x07
  | .dropped => 0x08
  | .notHolder => 0x09
  | .noSlot => 0x0A
  | .noAccess => 0x0B
  | .notManager => 0x0C
  | .badRequest => 0x0D
  | .badValue => 0x0E
  | .noManager => 0x0F
  | .twoManagers => 0x10
  | .managerDown => 0x11
  | .wrongState => 0x12
  | .noticeUnknown => 0x13

/-- Notice kinds, Table 12.3. -/
def NoticeKind.byte : NoticeKind → Byte
  | .resvGranted => 0x01
  | .resvRevoked => 0x02
  | .waitEnded => 0x03
  | .tableActivated => 0x04
  | .slotFault => 0x05
  | .slotEscalated => 0x06
  | .slotOnline => 0x07
  | .linkDown => 0x08
  | .linkUp => 0x09

/-- Notice causes, Table 12.3. -/
def NoticeCause.byte : NoticeCause → Byte
  | .none => 0x00
  | .lease => 0x01
  | .slotReset => 0x02
  | .restart => 0x03
  | .access => 0x04
  | .faultFrame => 0x05
  | .linkLost => 0x06
  | .orphanExpired => 0x07
  | .lineLost => 0x08
  | .creditViolation => 0x09
  | .creditStall => 0x0A
  | .partnerRestart => 0x0B

/-- Request kinds of a REPLY, Table 12.1. -/
def RequestKind.byte : RequestKind → Byte
  | .abort => 0x01
  | .resv => 0x02
  | .mgmt => 0x03

/-- 00h QUERY, 01h ACTION (R177). -/
def CmdClass.byte : CmdClass → Byte
  | .query => 0x00
  | .action => 0x01

/-- The class a byte carries, if any (R180). -/
def classOfByte (b : Byte) : Option CmdClass :=
  if b = 0 then some .query else if b = 1 then some .action else none

/-- 00h COMPLETED, 01h CANCELLED (R177). -/
def DoneOutcome.byte : DoneOutcome → Byte
  | .completed => 0x00
  | .cancelled => 0x01

/-- The DONE outcome a byte carries, if any (R180). -/
def outcomeOfByte (b : Byte) : Option DoneOutcome :=
  if b = 0 then some .completed else if b = 1 then some .cancelled else none

/-- The RESV kind a byte carries, if any (Table 12.1, R180). -/
def resvOfByte (b : Byte) : Option ResvKind :=
  if b = 1 then some .take else if b = 2 then some .renew else if b = 3 then some .drop else none

/-- The relay tag byte: generation × 64 plus the index (R177). -/
def byteOfTag (t : RelayTag) : Byte := byteOf (t.gen.toNat * 64 + t.index.val)

/-- The relay tag a byte carries; every byte carries one (R180). -/
def tagOfByte (b : Byte) : RelayTag where
  index := ⟨b.toNat % 64, Nat.mod_lt _ (by decide)⟩
  gen := BitVec.ofNat 2 (b.toNat / 64)

/-- The slot a slot address names; addresses above 7 name none (R30, R111, R141). -/
def slotOfByte (b : Byte) : Option SlotIx :=
  if h : b.toNat < 8 then some ⟨b.toNat, h⟩ else none

/-- The Exchange Table index a byte names; bytes above 63 name none (R20). -/
def indexOfByte (b : Byte) : Option XtIx :=
  if h : b.toNat < 64 then some ⟨b.toNat, h⟩ else none

/-! ## Received frames -/

/-- The body of a CMD (Table 12.1): malformed when the declared payload length disagrees with the body. -/
def parseCmd : List Byte → Option RxFrame
  | tag :: slotAddr :: cls :: ordered :: r1 :: r0 :: n1 :: n0 :: payload => do
    let cls ← classOfByte cls
    let ordered ← boolOfByte ordered
    if payload.length = nat16 n1 n0 then
      some (.cmd { tag, slotAddr, cls, ordered, maxResp := nat16 r1 r0, payload })
    else none
  | _ => none

/-- The body of a DONE (Table 12.1): a payload above 256 bytes is malformed (R181). -/
def parseDone : List Byte → Option RxFrame
  | tag :: outcome :: status :: n1 :: n0 :: payload => do
    let outcome ← outcomeOfByte outcome
    if payload.length = nat16 n1 n0 ∧ payload.length ≤ Config.maxPayload then
      some (.done { tag := tagOfByte tag, outcome, status, payload })
    else none
  | _ => none

/-- The body of a frame a Controller Link keeps (Table 11.1); none when the frame is malformed there. -/
def parseCtrlBody (kind : Byte) (body : List Byte) : Option RxFrame :=
  if kind = cmdKind then parseCmd body
  else if kind = abortKind then
    match body with
    | [tag] => some (.abort tag)
    | _ => none
  else if kind = resvKind then
    match body with
    | [tag, k, slotAddr] => (resvOfByte k).map fun k => .resv tag k slotAddr
    | _ => none
  else if kind = mgmtKind then
    match body with
    | tag :: code :: args => some (.mgmt tag code args)
    | _ => none
  else none

/-- The body of a frame a Slot Link keeps (Table 11.1); none when the frame is malformed there. -/
def parseSlotBody (kind : Byte) (body : List Byte) : Option RxFrame :=
  if kind = doneKind then parseDone body
  else if kind = parkKind then
    match body with
    | [tag] => some (.park (tagOfByte tag))
    | _ => none
  else if kind = faultKind then
    match body with
    | [code] => some (.fault code)
    | _ => none
  else none

/-- The body of a frame that link k keeps. -/
def parseBody : LinkId → Byte → List Byte → Option RxFrame
  | .ctrl _ => parseCtrlBody
  | .slot _ => parseSlotBody

/-- The parts of a frame whose CRC is good: kind, credit return count, declared body length, body.
DEDUCED (log 6): the CRC is the frame's last two bytes, over all the bytes before them. -/
def openFrame (frame : List Byte) : Option (Byte × Nat × Nat × List Byte) :=
  let n := frame.length - 2
  if frame.drop n = be16 (crc16 (frame.take n)).toNat then
    match frame.take n with
    | kind :: count :: l1 :: l0 :: body => some (kind, count.toNat, nat16 l1 l0, body)
    | _ => none
  else none

/-- What the checks of R169 make of a frame other than HELLO: discarded with no credit added, discarded with
its credit return count added, a CREDIT frame, or a frame to keep. -/
inductive Arrival
  | corrupt
  | discarded (count : Nat)
  | credit (count : Nat)
  | kept (count : Nat) (f : RxFrame)
  deriving DecidableEq, Repr

/-- The checks of R169 in their order: CRC, credit return count, kind and direction, body. -/
def checkFrame (k : LinkId) (frame : List Byte) : Arrival :=
  match openFrame frame with
  | none => .corrupt
  | some (kind, count, len, body) =>
    if Config.maxCreditReturn < count then .corrupt
    else if body.length ≠ len then .discarded count
    else if kind = creditKind then (if body = [] then .credit count else .discarded count)
    else match parseBody k kind body with
      | some f => .kept count f
      | none => .discarded count

/-- The receive-buffer size of a well-formed HELLO with the right role for link k and a size of 1 to 16
(R167, R169). A credit return count above 16 makes it malformed, as any frame (R177); a count of 0 to 16, its part
code and its revision are ignored (R167, R180; log 7). -/
def helloSize (k : LinkId) (frame : List Byte) : Option Nat :=
  match openFrame frame with
  | some (kind, count, len, [role, size, _, _, _]) =>
    let right : Byte := match k with
      | .ctrl _ => 0x01
      | .slot _ => 0x02
    if kind = helloKind ∧ count ≤ Config.maxCreditReturn ∧ len = 5 ∧ role = right ∧ 1 ≤ size.toNat
        ∧ size.toNat ≤ 16 then some size.toNat
    else none
  | _ => none

/-! ## Frames the relay sends -/

/-- The relay's HELLO: role 03h, its receive-buffer size, part code and revision; credit return count 0 (R167). -/
def helloBytes (places : Nat) : List Byte :=
  frameBytes helloKind 0
    (byteOf 3 :: byteOf places :: (be16 Config.partCode ++ [byteOf Config.revision]))

/-- A CREDIT frame (R171). -/
def creditBytes (count : Nat) : List Byte := frameBytes creditKind count []

/-- A REPLY or a refusal RESP (Table 12.1). -/
def ReplyItem.bytes (count : Nat) : ReplyItem → List Byte
  | .reply tag kind result data =>
    frameBytes replyKind count (tag :: kind.byte :: result.byte :: byteOf data.length :: data)
  | .refusal tag code => frameBytes respKind count [tag, 0x01, code.byte]

/-- A NOTICE with the lost-before flag it took as it began to leave (Table 12.1, R163). -/
def Notice.bytes (count : Nat) (lostBefore : Bool) (m : Notice) : List Byte :=
  frameBytes noticeKind count
    (m.id :: m.kind.byte :: m.subject :: m.cause.byte :: boolByte lostBefore :: byteOf m.data.length :: m.data)

/-- The RESP of an exchange (R85, Table 12.1). -/
def respBytes (count : Nat) (tag : Byte) : Response → List Byte
  | .slot a =>
    frameBytes respKind count
      (tag :: 0x00 :: a.outcome.byte :: a.status :: boolByte a.lateAbort
        :: (be16 a.payload.length ++ a.payload))
  | .relay code => frameBytes respKind count [tag, 0x01, code.byte]

/-- The ISSUE of an exchange (R49, Table 12.1). -/
def issueBytes (count : Nat) (t : RelayTag) (id : Identity) (payload : List Byte) : List Byte :=
  frameBytes issueKind count
    (byteOfTag t :: byteOf id.link.val :: id.cls.byte
      :: (be16 id.maxResp ++ be16 payload.length ++ payload))

/-- A CANCEL (Table 12.1). -/
def cancelBytes (count : Nat) (t : RelayTag) : List Byte := frameBytes cancelKind count [byteOfTag t]

/-- A KEEP (Table 12.1). -/
def keepBytes (count : Nat) (t : RelayTag) : List Byte := frameBytes keepKind count [byteOfTag t]

/-! ## Table entry images (Table 12.5) -/

/-- 00h NONE, 01h QUERY, 02h FULL. -/
def Access.byte : Access → Byte
  | .none => 0x00
  | .query => 0x01
  | .full => 0x02

/-- The access value a byte carries, if any. -/
def accessOfByte (b : Byte) : Option Access :=
  if b = 0 then some .none else if b = 1 then some .query else if b = 2 then some .full else none

/-- The image of a Slot Table entry. -/
def SlotConfig.image (c : SlotConfig) : List Byte :=
  [boolByte c.enabled, byteOf c.window, byteOf c.parkedLimit, byteOf c.queueLimit,
    byteOf c.activeDeadline, byteOf c.parkedDeadline, byteOf c.lease]

/-- The image of a Controller Table entry. -/
def CtrlConfig.image (c : CtrlConfig) : List Byte := [byteOf c.openLimit, boolByte c.manager]

/-- The image of the Relay Parameters entry. -/
def Params.image (p : Params) : List Byte := [byteOf p.ackWindow, byteOf p.orphanDeadline]

/-- Every field within the range of Table 9.1. -/
def SlotConfig.inRange (c : SlotConfig) : Bool :=
  1 ≤ c.window && c.window ≤ 8 && c.parkedLimit ≤ 16 && 1 ≤ c.queueLimit && c.queueLimit ≤ 64
    && 1 ≤ c.activeDeadline && c.activeDeadline ≤ 255 && 1 ≤ c.parkedDeadline
    && c.parkedDeadline ≤ 255 && c.lease ≤ 255

/-- Every field within the range of Table 9.3. -/
def CtrlConfig.inRange (c : CtrlConfig) : Bool := 1 ≤ c.openLimit && c.openLimit ≤ 32

/-- Every field within the range of Table 9.4. -/
def Params.inRange (p : Params) : Bool :=
  1 ≤ p.ackWindow && p.ackWindow ≤ 255 && 1 ≤ p.orphanDeadline && p.orphanDeadline ≤ 50

/-- One of the four tables (Section 12.2). -/
inductive TableId
  | slot | access | control | params
  deriving DecidableEq, Repr

/-- SLOT 01h, ACCESS 02h, CONTROLLER 03h, PARAMETERS 04h (Section 12.2). -/
def tableOfByte (b : Byte) : Option TableId :=
  if b = 1 then some .slot else if b = 2 then some .access
  else if b = 3 then some .control else if b = 4 then some .params else none

/-- The length of an entry of a table (Table 12.5). -/
def TableId.imageLength : TableId → Nat
  | .slot => 7
  | .access => 1
  | .control => 2
  | .params => 2

/-- How many entries a table has (R142). -/
def TableId.entries : TableId → Nat
  | .slot => 8
  | .access => 32
  | .control => 4
  | .params => 1

/-- An image with its fields read, none when some field is out of range (R148, check 2). -/
def slotConfigOfImage : List Byte → Option SlotConfig
  | [e, w, p, q, a, d, l] => do
    let enabled ← boolOfByte e
    let c : SlotConfig :=
      { enabled, window := w.toNat, parkedLimit := p.toNat, queueLimit := q.toNat,
        activeDeadline := a.toNat, parkedDeadline := d.toNat, lease := l.toNat }
    if c.inRange then some c else none
  | _ => none

/-- As `slotConfigOfImage`, for the Access Table. -/
def accessOfImage : List Byte → Option Access
  | [b] => accessOfByte b
  | _ => none

/-- As `slotConfigOfImage`, for the Controller Table. -/
def ctrlConfigOfImage : List Byte → Option CtrlConfig
  | [o, m] => do
    let manager ← boolOfByte m
    let c : CtrlConfig := { openLimit := o.toNat, manager }
    if c.inRange then some c else none
  | _ => none

/-- As `slotConfigOfImage`, for the Relay Parameters. -/
def paramsOfImage : List Byte → Option Params
  | [a, o] =>
    let p : Params := { ackWindow := a.toNat, orphanDeadline := o.toNat }
    if p.inRange then some p else none
  | _ => none

/-- The image of an entry of a bank, none when the index is outside the table's range (R147). -/
def Bank.image (b : Bank) : TableId → Nat → Option (List Byte)
  | .slot, i => b.slotTable[i]?.map SlotConfig.image
  | .access, i => b.access[i]?.map fun a => [a.byte]
  | .control, i => b.control[i]?.map CtrlConfig.image
  | .params, i => if i = 0 then some b.params.image else none

/-- The bank with one entry replaced by an image; none when some field of it is out of range (R148). -/
def Bank.write (b : Bank) (t : TableId) (i : Nat) (image : List Byte) : Option Bank :=
  match t with
  | .slot => (slotConfigOfImage image).map fun c => { b with slotTable := b.slotTable.setIfInBounds i c }
  | .access => (accessOfImage image).map fun a => { b with access := b.access.setIfInBounds i a }
  | .control => (ctrlConfigOfImage image).map fun c => { b with control := b.control.setIfInBounds i c }
  | .params => (paramsOfImage image).map fun p => { b with params := p }

end Sys2Proof.Machine
end

