-- ==== Sys2Proof/Machine/Ops.lean ====
section
/-! DEFINITION. The named operations over the state that the meanings share: entries, stores, queues, the Order
Unit, endings, orphans, notices, credits and time. -/

namespace Sys2Proof.Machine

open Sys2Proof

/-! ## Writing one part of the state -/

/-- Replace an entry. -/
def State.setEntry (s : State) (i : XtIx) (e : Entry) : State :=
  { s with entries := s.entries.set i e }

/-- Change a Controller Link. -/
def State.onCtrl (s : State) (l : CtrlIx) (f : CtrlBlock → CtrlBlock) : State :=
  { s with ctrls := s.ctrls.set l (f (s.ctrl l)) }

/-- Change a slot. -/
def State.onSlot (s : State) (n : SlotIx) (f : SlotBlock → SlotBlock) : State :=
  { s with slots := s.slots.set n (f (s.slot n)) }

/-- Change the link part of a Controller Link. -/
def CtrlBlock.onLink (b : CtrlBlock) (f : LinkBlock → LinkBlock) : CtrlBlock := { b with link := f b.link }

/-- Change the link part of a slot. -/
def SlotBlock.onLink (b : SlotBlock) (f : LinkBlock → LinkBlock) : SlotBlock := { b with link := f b.link }

/-- Change a link. -/
def State.onLink (s : State) (k : LinkId) (f : LinkBlock → LinkBlock) : State :=
  match k with
  | .ctrl l => s.onCtrl l (·.onLink f)
  | .slot n => s.onSlot n (·.onLink f)

/-- Set the free blocks of a link's reserve. -/
def State.setReserve (s : State) (l : CtrlIx) (n : Nat) : State :=
  { s with reserveFree := s.reserveFree.set l n }

/-- The clock stands at an instant. -/
def State.atTime (s : State) (t : Nat) : State := { s with now := t }

/-- Replace the causes that wait for an ISSUE in transit. -/
def State.withWaiting (s : State) (ws : List WaitingCause) : State := { s with waiting := ws }

/-- Put a live exchange at an index whose generation is kept (R8). -/
def State.putExchange (s : State) (i : XtIx) (x : Exchange) : State :=
  s.setEntry i { s.entry i with live := some x }

/-- Change the state of a live exchange; its identity fields stay (R2). -/
def State.setPhase (s : State) (i : XtIx) (p : Phase) : State :=
  match s.exchange i with
  | some x => s.putExchange i { x with phase := p }
  | none => s

/-! ## Stores -/

/-- Return command blocks to the Command Store (R67). -/
def State.returnCmd (s : State) (c : Option CmdSpace) : State :=
  match c with
  | some c => { s with cmdFree := s.cmdFree + c.blocks }
  | none => s

/-- Return response blocks to the pool they came from; `l` is the entry's own link (R69, R70). -/
def State.returnResp (s : State) (l : CtrlIx) (pool : Pool) (blocks : Nat) : State :=
  match pool with
  | .general => { s with generalFree := s.generalFree + blocks }
  | .reserve => s.setReserve l (s.reserve l + blocks)

/-- Take response blocks from a pool (R69). -/
def State.takeResp (s : State) (l : CtrlIx) (pool : Pool) (blocks : Nat) : State :=
  match pool with
  | .general => { s with generalFree := s.generalFree - blocks }
  | .reserve => s.setReserve l (s.reserve l - blocks)

/-! ## Queues -/

/-- Append a frame to the tail of a Slot Send Queue (R50). -/
def State.queueSend (s : State) (n : SlotIx) (f : SlotFrame) : State :=
  s.onSlot n fun b => { b with sendQ := b.sendQ ++ [f] }

/-- Withdraw a frame from a Slot Send Queue, unless it has begun to leave (R51, R176). -/
def SlotBlock.withdraw (b : SlotBlock) (f : SlotFrame) : SlotBlock :=
  match b.sendQ with
  | [] => b
  | g :: rest =>
    if b.sendingHead then { b with sendQ := g :: rest.filter (· != f) }
    else { b with sendQ := (g :: rest).filter (· != f) }

/-- Withdraw a frame from a Slot Send Queue (R51). -/
def State.withdrawSend (s : State) (n : SlotIx) (f : SlotFrame) : State := s.onSlot n (·.withdraw f)

/-- An exchange leaves its Slot Queue from its place; the others close up (R42). -/
def State.leaveSlotQueue (s : State) (n : SlotIx) (i : XtIx) : State :=
  s.onSlot n fun b => { b with queue := b.queue.filter (· != i) }

/-- Append an entry to the Reply Queue of a link (R27, R90, R111, R155). -/
def State.queueReply (s : State) (l : CtrlIx) (r : ReplyItem) : State :=
  s.onCtrl l fun b => { b with replyQ := b.replyQ ++ [r] }

/-! ## Notices -/

/-- Append a notice to a Notice Queue, or set the lost flag when it is full (R162). -/
def CtrlBlock.addNotice (b : CtrlBlock) (m : Notice) : CtrlBlock :=
  if b.noticeQ.length < Config.noticePlaces then { b with noticeQ := b.noticeQ ++ [m] }
  else { b with lost := true }

/-- Generate a notice for a link: it takes the next id (R160, R161) and is queued or lost (R162). -/
def State.notify (s : State) (l : CtrlIx) (kind : NoticeKind) (subject : Byte) (cause : NoticeCause)
    (data : List Byte) : State :=
  { s.onCtrl l (·.addNotice ⟨s.noticeId, kind, subject, cause, data⟩) with noticeId := s.noticeId + 1 }

/-- Generate a notice for the manager link as it now stands (R138, R146). The active Controller Table always
marks one link (R150); without one there is no queue to append to. -/
def State.notifyManager (s : State) (kind : NoticeKind) (subject : Byte) (cause : NoticeCause)
    (data : List Byte) : State :=
  match s.manager with
  | some l => s.notify l kind subject cause data
  | none => { s with noticeId := s.noticeId + 1 }

/-! ## Orphans -/

/-- A record joins a slot's Orphan Set with an expiry one orphan deadline ahead (R16, R102). -/
def State.addOrphan (s : State) (n : SlotIx) (t : RelayTag) (former : Position) : State :=
  let o : Orphan := ⟨t, former, s.now + s.active.params.orphanDeadline * 100 * Config.cyclesPerMs⟩
  s.onSlot n fun b => { b with orphans := b.orphans ++ [o] }

/-- The orphan of a slot that carries a relay tag (R57). -/
def SlotBlock.orphan (b : SlotBlock) (t : RelayTag) : Option Orphan := b.orphans.find? fun o => o.tag == t

/-- An orphan leaves its set; a CANCEL still waiting for its tag is withdrawn (R61, R103). -/
def State.removeOrphan (s : State) (n : SlotIx) (t : RelayTag) : State :=
  (s.onSlot n fun b => { b with orphans := b.orphans.filter fun o => o.tag != t }).withdrawSend n (.cancel t)

/-! ## The Order Unit -/

/-- A response record as the Order Unit places it, RELEASED (R79) or HELD. -/
def State.release (s : State) (l : CtrlIx) (i : XtIx) (r : Response) : State :=
  (s.setPhase i (.released r)).onCtrl l fun b => { b with releaseQ := b.releaseQ ++ [i] }

/-- A HELD entry becomes RELEASED with the response it has; any other entry stays (R80, R87). -/
def State.releaseHeld (s : State) (l : CtrlIx) (i : XtIx) : State :=
  match s.exchange i with
  | some x =>
    match x.phase with
    | .held r => s.release l i r
    | _ => s
  | none => s

/-- The exchange at an index is HELD. -/
def State.isHeldAt (s : State) (i : XtIx) : Bool :=
  match s.exchange i with
  | some x => x.isHeld
  | none => false

/-- The release cascade: the HELD elements at the front of the Order List are released in order, until the
list is empty or its first element is not HELD (R80). -/
def State.cascade (s : State) (l : CtrlIx) : State :=
  let list := (s.ctrl l).orderList
  let go := list.takeWhile s.isHeldAt
  go.foldl (fun s i => s.releaseHeld l i) (s.onCtrl l fun b => { b with orderList := list.drop go.length })

/-- Hand a response to the Order Unit (R79, Table 5.1). -/
def State.handToOrderUnit (s : State) (i : XtIx) (x : Exchange) (r : Response) : State :=
  let l := x.id.link
  if x.id.ordered then
    if s.orderHead l = some i then
      ((s.release l i r).onCtrl l fun b => { b with orderList := b.orderList.tail }).cascade l
    else s.setPhase i (.held r)
  else s.release l i r

/-! ## Endings -/

/-- How much of the response reservation an ending keeps: for a slot-origin response the blocks of its payload,
for a relay-origin response none (R4, R70). -/
def Response.keptBlocks : Response → Nat
  | .slot a => a.space.blocks
  | .relay _ => 0

/-- What every ending does but for the Order Unit's part: the exchange leaves its Slot Queue, its unsent ISSUE
and a waiting KEEP are withdrawn, its command blocks and the response blocks it does not keep return, and its
position is freed or passed to an orphan (R15, R16). -/
def State.closeSlotSide (s : State) (i : XtIx) (x : Exchange) (kept : Nat) (orphan : Option Position) : State :=
  let n := x.id.slot
  let t := s.relayTag i
  let s := s.returnCmd x.cmdSpace
  let s := match x.respSpace with
    | some r => s.returnResp x.id.link r.pool (r.blocks - kept)
    | none => s
  let s := ((s.leaveSlotQueue n i).withdrawSend n (.issue t)).withdrawSend n (.keep t)
  match orphan with
  | some p => s.addOrphan n t p
  | none => s

/-- An entry ends with a response, as R15 gives for every ending, and is handed to the Order Unit (R79).
Without an orphan a waiting CANCEL is withdrawn; with one it stays (R15, R51). -/
def State.endExchange (s : State) (i : XtIx) (r : Response) (orphan : Bool) : State :=
  match s.exchange i with
  | none => s
  | some x =>
    let t := s.relayTag i
    let s1 := s.closeSlotSide i x r.keptBlocks (if orphan then x.orphans else none)
    let s2 := if orphan then s1 else s1.withdrawSend x.id.slot (.cancel t)
    s2.handToOrderUnit i x r

/-- Append the CANCEL of an exchange whose slot side the controller side abandons, unless it is CANCELLING and
has its CANCEL already, or its ISSUE has not left (R96). -/
def State.queueCancel (s : State) (t : RelayTag) (x : Exchange) : State :=
  match x.phase with
  | .active none _ _ | .parked _ _ => s.queueSend x.id.slot (.cancel t)
  | _ => s

/-- A live entry becomes FREE: it returns what it holds, leaves every collection, and its generation advances
(R18, R19). -/
def State.freeEntry (s : State) (i : XtIx) (x : Exchange) (orphan : Option Position) : State :=
  let s := s.closeSlotSide i x 0 orphan
  let s := s.onCtrl x.id.link fun b =>
    { b with orderList := b.orderList.filter (· != i), releaseQ := b.releaseQ.filter (· != i) }
  let s := { s with admissionOrder := s.admissionOrder.filter (· != i) }
  s.setEntry i { gen := (s.entry i).gen + 1, live := none }

/-! ## Ends of a slot's work (R130, R136) -/

/-- One exchange of a slot that leaves service: CANCELLING ends ABORTED, QUEUED, ACTIVE and PARKED end with the
cause's code, HELD and RELEASED stay (R17, R130). -/
def State.endForSlot (s : State) (n : SlotIx) (code : RelayCode) (i : XtIx) : State :=
  match s.exchange i with
  | some x =>
    if x.id.slot = n then
      match x.phase with
      | .queued _ | .active _ _ _ | .parked _ _ => s.endExchange i (.relay code) false
      | .cancelling _ _ _ => s.endExchange i (.relay .aborted) false
      | .held _ | .released _ => s
    else s
  | none => s

/-- The slot side of all the slot's work ends: its exchanges in admission order, its orphans, its Slot Send
Queue (R130). A frame being sent is still sent to its end (R51; log 15). -/
def State.endSlotWork (s : State) (n : SlotIx) (code : RelayCode) : State :=
  (s.admissionOrder.foldl (fun s i => s.endForSlot n code i) s).onSlot n fun b =>
    { b with orphans := [], sendQ := [] }

/-! ## Credits and sending -/

/-- A receive buffer place is freed: one credit is owed, in the count for other frames (R170). -/
def LinkBlock.oweOther (b : LinkBlock) : LinkBlock := { b with owedOther := b.owedOther + 1 }

/-- A CREDIT frame that passed its checks leaves the buffer: one credit is owed, in its own count (R170). -/
def LinkBlock.oweCredit (b : LinkBlock) : LinkBlock := { b with owedCredit := b.owedCredit + 1 }

/-- A credit return count is added to the credits held; any excess above the announced size is ignored (R170). -/
def LinkBlock.addCredits (b : LinkBlock) (count : Nat) : LinkBlock :=
  { b with held := min (b.held + count) b.announced }

/-- The credit return count of a frame that begins to leave: all the credits owed, up to 16 (R170). -/
def LinkBlock.returnCount (b : LinkBlock) : Nat := min b.owed Config.maxCreditReturn

/-- A frame begins to leave: it uses one credit, returns the owed credits and goes on the line (R170). A link
owes at most 8 (R170), so the return clears both counts; above 16 the count for other frames falls first. -/
def LinkBlock.begin (b : LinkBlock) (what : Sending) (bytes : List Byte) : LinkBlock :=
  { b with
    held := b.held - 1
    owedOther := b.owedOther - b.returnCount
    owedCredit := b.owedCredit - (b.returnCount - b.owedOther)
    sending := some what
    txLine := bytes }

/-- The link is free to begin a frame: UP, sending nothing, with a credit it may use (R175, R176). -/
def LinkBlock.mayBegin (b : LinkBlock) : Bool :=
  b.state == .up && b.sending.isNone && b.canUseCredit

/-- The last byte of the frame has left (R175, R176). -/
def LinkBlock.endSend (b : LinkBlock) : LinkBlock := { b with sending := none }

/-- The link sends its own HELLO, outside the credit scheme (R167; log 5). -/
def LinkBlock.sendHello (places : Nat) (b : LinkBlock) : LinkBlock := { b with txLine := helloBytes places }

/-- The receive buffer places of a link (R167). -/
def bufferPlaces : LinkId → Nat
  | .ctrl _ => Config.ctrlBufferPlaces
  | .slot _ => Config.slotBufferPlaces

/-! ## Credit stall timers (R172) -/

/-- Start or stop a link's stall timer by the condition as it now stands; a timer that runs goes on. -/
def LinkBlock.settle (now : Nat) (cond : Bool) (b : LinkBlock) : LinkBlock :=
  if cond then { b with stall := some (b.stall.getD (now + Config.stallTime)) } else { b with stall := none }

/-- The end of every event: each link's stall timer follows its condition (R172; log 10). -/
def State.settle (s : State) : State :=
  { s with
    ctrls := Vector.ofFn fun l =>
      let b := s.ctrl l
      b.onLink (·.settle s.now (b.link.stalls b.frameWaits (s.departing l)))
    slots := Vector.ofFn fun n =>
      let b := s.slot n
      b.onLink (·.settle s.now (b.link.stalls b.frameWaits false)) }

/-- An event that has taken place: the stall timers follow, and the part goes on. -/
def State.complete (s : State) : Host.Outcome State Fault Refusal := .next s.settle

/-- An event whose conditions do not hold does not take place: nothing changes (log 3). -/
def State.stay (s : State) : Host.Outcome State Fault Refusal := .next s

/-! ## Time -/

/-- The expiry of a timer is taken: not before its instant, so the clock stands at that instant or later, and
not while another timer would be left more than its slack behind (Table 11.2; log 4). -/
def State.atExpiry (s : State) (expiry : Nat) (effect : State → State) : Host.Outcome State Fault Refusal :=
  let t := max s.now expiry
  if s.mayPassTo t then (effect (s.atTime t)).complete else s.stay

end Sys2Proof.Machine
end

