-- ==== Sys2Proof/Machine/Reservations.lean ====
section
/-! DEFINITION. The Reservation Unit's operations: leases, grants with preemption, hand-over, clearing and the
removal of a departed link (Section 7). -/

namespace Sys2Proof.Machine

open Sys2Proof

/-- Change a slot's reservation record. -/
def State.onResv (s : State) (n : SlotIx) (f : Reservation → Reservation) : State :=
  s.onSlot n fun b => { b with resv := f b.resv }

/-- The byte that carries a slot number (R177). -/
def slotByte (n : SlotIx) : Byte := byteOf n.val

/-- The byte that carries a controller link number (R177). -/
def ctrlByte (l : CtrlIx) : Byte := byteOf l.val

/-- The lease expiry that starting or restarting a lease sets: none when the lease field is 0 (R115). -/
def State.leaseExpiryFrom (s : State) (n : SlotIx) : Option Nat :=
  let lease := (s.slotConfig n).lease
  if lease = 0 then none else some (s.now + lease * 10 * Config.cyclesPerMs)

/-- The lease of a slot starts or restarts (R115). -/
def State.startLease (s : State) (n : SlotIx) : State :=
  s.onResv n fun r => { r with lease := s.leaseExpiryFrom n }

/-- A link becomes holder, with its lease started (R112, R118). -/
def State.makeHolder (s : State) (n : SlotIx) (l : CtrlIx) : State :=
  (s.onResv n fun r => { r with holder := some l }).startLease n

/-- One exchange at a grant: a QUEUED ACTION of another link ends PREEMPTED (R119). -/
def State.preemptOne (s : State) (l : CtrlIx) (i : XtIx) : State :=
  match s.exchange i with
  | some x =>
    if x.id.cls = .action ∧ x.id.link ≠ l ∧ x.isQueued then s.endExchange i (.relay .preempted) false else s
  | none => s

/-- Preemption at a grant of slot n to link l, in Slot Queue order, head first (R119). -/
def State.preempt (s : State) (n : SlotIx) (l : CtrlIx) : State :=
  (s.slot n).queue.foldl (fun s i => s.preemptOne l i) s

/-- The waiters of a slot that has lost its holder, from the front: one without FULL access is removed with
WAIT_ENDED, the first with FULL access becomes holder with RESV_GRANTED, and its grant preempts (R118). -/
def State.handOverTo (s : State) (n : SlotIx) : List CtrlIx → State
  | [] => s.onResv n fun r => { r with waiting := [] }
  | l :: rest =>
    if s.access l n = .full then
      let s := s.onResv n fun r => { r with waiting := rest }
      ((s.makeHolder n l).notify l .resvGranted (slotByte n) .none []).preempt n l
    else (s.notify l .waitEnded (slotByte n) .access []).handOverTo n rest

/-- The hand-over of a slot whose holder gives it up or loses it: the holder field and the lease expiry are
removed, and the waiting list is taken from the front (R118). -/
def State.handOver (s : State) (n : SlotIx) : State :=
  (s.onResv n fun r => { r with holder := none, lease := none }).handOverTo n (s.slot n).resv.waiting

/-- The record is cleared with RESV_REVOKED to the holder and WAIT_ENDED to each waiter, from the front
(R122, R123). -/
def State.clearReservation (s : State) (n : SlotIx) (cause : NoticeCause) : State :=
  let r := (s.slot n).resv
  let s := match r.holder with
    | some l => s.notify l .resvRevoked (slotByte n) cause []
    | none => s
  let s := r.waiting.foldl (fun s l => s.notify l .waitEnded (slotByte n) cause []) s
  s.onResv n fun _ => Reservation.empty

/-- A departed link leaves the waiting list of a slot and, if it holds the slot, the slot is handed over (R121). -/
def State.dropLinkAt (s : State) (l : CtrlIx) (n : SlotIx) : State :=
  let s := s.onResv n fun r => { r with waiting := r.waiting.filter (· != l) }
  if (s.slot n).resv.holder = some l then s.handOver n else s

/-- A departed link leaves every reservation record, its slots handed over
from slot 0 to slot 7; at each slot it leaves the waiting list before the hand-over (R121). -/
def State.dropLink (s : State) (l : CtrlIx) : State :=
  (List.finRange 8).foldl (fun s n => s.dropLinkAt l n) s

end Sys2Proof.Machine
end

