-- ==== Sys2Proof/Machine/Monitor.lean ====
section
/-! DEFINITION. The Slot Monitor's operations: slot link UP, faults, escalation and the reset pulse (Section 8). -/

namespace Sys2Proof.Machine

open Sys2Proof

/-- Change a slot's state. -/
def State.setSlotState (s : State) (n : SlotIx) (st : SlotState) : State :=
  s.onSlot n fun b => { b with state := st }

/-- The notice cause of a fault (Table 8.2). -/
def LastFault.cause : LastFault → NoticeCause
  | .none => .none
  | .faultFrame _ => .faultFrame
  | .linkLost => .linkLost
  | .orphanExpired => .orphanExpired

/-- The data of a SLOT_FAULT notice: the fault code, for FAULT_FRAME only (R131). -/
def LastFault.data : LastFault → List Byte
  | .faultFrame code => [code]
  | _ => []

/-- The slot link UP event (R128): an OFFLINE slot becomes ONLINE with SLOT_ONLINE; other states stay. -/
def State.slotLinkUp (s : State) (n : SlotIx) : State :=
  if (s.slot n).state = .offline then
    (s.setSlotState n .online).notifyManager .slotOnline (slotByte n) .none []
  else s

/-- A fault cause is taken (R129): an ONLINE slot becomes FAULTED, its work ended (R130), SLOT_FAULT generated
and awaited, the acknowledge window started (R131). In the other states the cause is discarded. -/
def State.faultSlot (s : State) (n : SlotIx) (cause : LastFault) : State :=
  if (s.slot n).state = .online then
    let s1 := s.endSlotWork n .slotFault
    let window := s.now + s.active.params.ackWindow * 10 * Config.cyclesPerMs
    let s2 := s1.onSlot n fun b =>
      { b with lastFault := cause, state := .faulted (some { id := s1.noticeId, window }) }
    s2.notifyManager .slotFault (slotByte n) cause.cause cause.data
  else s

/-- Entry into RESETTING: the output is asserted and the pulse timer started (R134). -/
def State.startPulse (s : State) (n : SlotIx) : State :=
  s.setSlotState n (.resetting (s.now + Config.pulseTime))

/-- The effects of an escalation: RESETTING, SLOT_ESCALATED, then the clearing of the reservation (R133). -/
def State.escalate (s : State) (n : SlotIx) : State :=
  ((s.startPulse n).notifyManager .slotEscalated (slotByte n) .none []).clearReservation n .slotReset

/-- The effects of a SLOT_RESET on a slot that is not RESETTING: an ONLINE slot's work ends, and the slot
enters RESETTING with its reservation cleared (R136). -/
def State.resetSlot (s : State) (n : SlotIx) : State :=
  let s := if (s.slot n).state = .online then s.endSlotWork n .slotReset else s
  (s.startPulse n).clearReservation n .slotReset

end Sys2Proof.Machine
end

