-- ==== Sys2Proof/Machine/Exchanges.lean ====
section
/-! DEFINITION. What the Exchange Table and the Slot Schedulers do at a cause once it is taken: ABORT, deadline
expiry, DONE, orphan expiry, teardown of a link's entries, RELAY_RESTART, SLOT_RESET (Sections 3, 6, 10). -/

namespace Sys2Proof.Machine

open Sys2Proof

/-! ## ABORT (Table 6.1) -/

/-- An entry that is ACTIVE with issue sent = yes, or PARKED, becomes CANCELLING: its former position is the
state it left, a CANCEL is appended, a waiting KEEP is withdrawn (R93). -/
def State.toCancelling (s : State) (i : XtIx) (x : Exchange) (space : RespSpace) (deadline : Nat)
    (former : Position) : State :=
  let t := s.relayTag i
  ((s.setPhase i (.cancelling space deadline former)).queueSend x.id.slot (.cancel t)).withdrawSend x.id.slot (.keep t)

/-- The effect of an ABORT on its entry, and its result (Table 6.1). -/
def State.abortEntry (s : State) (i : XtIx) : State × ReplyResult :=
  match s.exchange i with
  | none => (s, .unknown)
  | some x =>
    match x.phase with
    | .queued _ | .active (some _) _ _ => (s.endExchange i (.relay .aborted) false, .taken)
    | .active none space deadline => (s.toCancelling i x space deadline .active, .taken)
    | .parked space deadline => (s.toCancelling i x space deadline .parked, .taken)
    | .cancelling _ _ _ => (s, .repeated)
    | .held _ | .released _ => (s, .tooLate)

/-- An ABORT is taken: it acts on the link's live entry with the tag and is answered by one REPLY with the
controller tag as its request tag (R90, R11). -/
def State.takeAbort (s : State) (l : CtrlIx) (tag : Byte) : State :=
  let (s, result) := match s.tagged l tag with
    | some i => s.abortEntry i
    | none => (s, .unknown)
  s.queueReply l (.reply tag .abort result [])

/-! ## Deadline expiry (R99 to R101) -/

/-- A deadline expiry is taken. In CANCELLING the entry ends ABORTED with an orphan and no new CANCEL (R101);
otherwise it ends TIMEOUT, with an orphan and a CANCEL when its ISSUE had left (R99), and without when it had
not (R100). An entry that has ended has no deadline (R15, R97). -/
def State.takeDeadline (s : State) (i : XtIx) : State :=
  match s.exchange i with
  | none => s
  | some x =>
    match x.phase with
    | .active _ _ _ | .parked _ _ => (s.queueCancel (s.relayTag i) x).endExchange i (.relay .timeout) x.orphans.isSome
    | .cancelling _ _ _ => s.endExchange i (.relay .aborted) true
    | .queued _ | .held _ | .released _ => s

/-! ## DONE (R57 to R61) -/

/-- A relay tag from slot n names this exchange, whose entry is at the tag's index (R54, R57). -/
def State.tagNames (s : State) (n : SlotIx) (t : RelayTag) (x : Exchange) : Bool :=
  x.id.slot == n && (s.entry t.index).gen == t.gen

/-- The exchange that a DONE of slot n matches: live, of that slot, of the DONE's generation, and ACTIVE, PARKED
or CANCELLING (R57, step 1). -/
def State.doneEntry (s : State) (n : SlotIx) (t : RelayTag) : Option Exchange :=
  match s.exchange t.index with
  | some x => if s.tagNames n t x ∧ x.position.isSome then some x else none
  | none => none

/-- The response that a DONE within the maximum response length gives: the card's answer, with late-abort when
the entry was CANCELLING and the card completed it; ABORTED when it was CANCELLING and the card cancelled it
(R59, R60). -/
def doneResponse (x : Exchange) (space : RespSpace) (d : DoneFrame) : Response :=
  let answer (lateAbort : Bool) : Response :=
    .slot { outcome := d.outcome, status := d.status, lateAbort, payload := d.payload,
            space := { space with blocks := blockCount d.payload.length } }
  match x.phase, d.outcome with
  | .cancelling _ _ _, .cancelled => .relay .aborted
  | .cancelling _ _ _, .completed => answer true
  | _, _ => answer false

/-- A DONE is taken: it ends the entry it matches (R58 to R60), or removes the orphan it matches (R61), or is
discarded (R57). -/
def State.takeDone (s : State) (n : SlotIx) (d : DoneFrame) : State :=
  match s.doneEntry n d.tag with
  | some x =>
    match x.respSpace with
    | some space =>
      if x.id.maxResp < d.payload.length then s.endExchange d.tag.index (.relay .slotOverrun) false
      else s.endExchange d.tag.index (doneResponse x space d) false
    | none => s
  | none =>
    match (s.slot n).orphan d.tag with
    | some _ => s.removeOrphan n d.tag
    | none => s

/-! ## Orphan expiry (R104) -/

/-- An orphan's expiry is taken: the orphan is removed and its slot faulted with cause ORPHAN_EXPIRED. An orphan
that has left its set has no expiry (R61, R103). -/
def State.takeOrphanExpiry (s : State) (n : SlotIx) (t : RelayTag) : State :=
  match (s.slot n).orphan t with
  | some _ => (s.removeOrphan n t).faultSlot n .orphanExpired
  | none => s

/-! ## Controller link teardown (R105, Table 6.4) -/

/-- One entry at the departure of a link: if it is the link's, it becomes FREE without a response; an issued one
leaves an orphan, with a CANCEL unless it was CANCELLING (R18, R105). -/
def State.tearDownOne (s : State) (l : CtrlIx) (i : XtIx) : State :=
  match s.exchange i with
  | some x =>
    if x.id.link = l then (s.queueCancel (s.relayTag i) x).freeEntry i x x.orphans else s
  | none => s

/-- Every live entry of a departed link, in the admission order of the table (R105). -/
def State.tearDown (s : State) (l : CtrlIx) : State :=
  s.admissionOrder.foldl (fun s i => s.tearDownOne l i) s

/-! ## RELAY_RESTART (R107, R159) -/

/-- One entry at a RELAY_RESTART (Table 6.5): it is ended RESTARTED and released, or released with the response
it has, or keeps its place. The hold of R79 does not apply (R87). -/
def State.restartOne (s : State) (i : XtIx) : State :=
  match s.exchange i with
  | none => s
  | some x =>
    match x.phase with
    | .released _ => s
    | .held r => s.release x.id.link i r
    | .queued _ | .active _ _ _ | .parked _ _ | .cancelling _ _ _ =>
      let s := s.queueCancel (s.relayTag i) x
      (s.closeSlotSide i x 0 x.orphans).release x.id.link i (.relay .restarted)

/-- The effects of a RELAY_RESTART before its REPLY: every live entry in admission order, the Order Lists
emptied, every reservation record cleared from slot 0 to slot 7 (R87, R123, R159). -/
def State.restartAll (s : State) : State :=
  let s := s.admissionOrder.foldl State.restartOne s
  let s := (List.finRange 4).foldl (fun s l => s.onCtrl l fun b => { b with orderList := [] }) s
  (List.finRange 8).foldl (fun s n => s.clearReservation n .restart) s

/-! ## Management requests that may wait -/

/-- A REPLY of request kind MGMT (R155). -/
def State.answer (s : State) (l : CtrlIx) (tag : Byte) (result : ReplyResult) (data : List Byte) : State :=
  s.queueReply l (.reply tag .mgmt result data)

/-- A RELAY_RESTART is taken (R159); the privilege is that of the moment it is taken (R157). -/
def State.takeRestart (s : State) (l : CtrlIx) (tag : Byte) : State :=
  if s.isManager l then s.restartAll.answer l tag .ok [] else s.answer l tag .notManager []

/-- A SLOT_RESET of a slot 0 to 7 is taken (R136). -/
def State.takeSlotReset (s : State) (l : CtrlIx) (tag : Byte) (n : SlotIx) : State :=
  if s.isManager l then
    if s.slotResetLow n then s.answer l tag .wrongState []
    else (s.resetSlot n).answer l tag .ok []
  else s.answer l tag .notManager []

end Sys2Proof.Machine
end

