-- ==== Sys2Proof/Machine/Links.lean ====
section
/-! DEFINITION. Links entering and leaving UP, and the causes that wait for an ISSUE in transit (Section 11,
R97, R105, R168). -/

namespace Sys2Proof.Machine

open Sys2Proof

/-! ## States of a link -/

/-- The link sends its HELLO and enters WAIT_HELLO (R167, R168). -/
def LinkBlock.toWaitHello (places : Nat) (b : LinkBlock) : LinkBlock :=
  { b.sendHello places with state := .waitHello }

/-- The link enters UP with the partner's receive-buffer size as its credits held, owing none (R167, R168). -/
def LinkBlock.toUp (size : Nat) (b : LinkBlock) : LinkBlock :=
  { b with state := .up, held := size, announced := size, owedCredit := 0, owedOther := 0 }

/-- What every departure from UP does to the link: buffer discarded, credits 0, stall timer stopped, the frame
being sent abandoned (R168). -/
def LinkBlock.leaveUp (b : LinkBlock) : LinkBlock :=
  { b with buffer := [], held := 0, owedCredit := 0, owedOther := 0, stall := none, sending := none }

/-- The line condition read afresh after a departure to a link that is not DOWN: an unlocked line has its
line-loss timer running (R168; log 12). -/
def LinkBlock.readLine (now : Nat) (b : LinkBlock) : LinkBlock :=
  if b.locked then b else { b with lineTimer := some (b.lineTimer.getD (now + Config.lineLossTime)) }

/-- Where a departure leads (R168): LINE_LOST to DOWN, and from there to WAIT_HELLO when the line has locked
meanwhile (log 12); a credit cause to WAIT_HELLO with a fresh HELLO; a partner restart back to UP. -/
def LinkBlock.depart (places now : Nat) (cause : DepartCause) (b : LinkBlock) : LinkBlock :=
  let b := b.leaveUp
  match cause with
  | .lineLost =>
    let b : LinkBlock := { b with state := .down, lineTimer := none }
    if b.locked then b.toWaitHello places else b
  | .creditViolation | .creditStall => (b.toWaitHello places).readLine now
  | .partnerRestart size => ((b.sendHello places).toUp size).readLine now

/-- The notice cause of a departure (R166). -/
def DepartCause.notice : DepartCause → NoticeCause
  | .lineLost => .lineLost
  | .creditViolation => .creditViolation
  | .creditStall => .creditStall
  | .partnerRestart _ => .partnerRestart

/-- The departure brings the link back to UP in the same event. -/
def DepartCause.returns : DepartCause → Bool
  | .partnerRestart _ => true
  | _ => false

/-- The queues of a departed Controller Link: Order List, Release Queue, Reply Queue and Notice Queue emptied,
the lost flag set when a notice was discarded, an offered CMD withdrawn (R39, R88, R164, R168). -/
def CtrlBlock.emptyQueues (b : CtrlBlock) : CtrlBlock :=
  { b with
    orderList := []
    releaseQ := []
    replyQ := []
    noticeQ := []
    lost := b.lost || !b.noticeQ.isEmpty
    offered := none }

/-- The causes that go with a departed link: its waiting ABORT (R106) and its waiting request (R155). -/
def WaitingCause.goesWith (l : CtrlIx) : WaitingCause → Bool
  | .abort l' _ _ | .restart l' _ | .slotReset l' _ _ => l' == l
  | _ => false

/-- The departure of a Controller Link from UP, in one event (R168, R105, R88, R121, R164, R166): its entries
are torn down, its queues emptied, it leaves the reservation records, LINK_DOWN is generated, and LINK_UP too
after a partner restart. LINK_DOWN follows the reservation notices (log 8). -/
def State.departCtrl (s : State) (l : CtrlIx) (cause : DepartCause) : State :=
  let s := s.withWaiting (s.waiting.filter fun w => !w.goesWith l)
  let s := (s.onCtrl l (·.onLink (·.leaveUp))).tearDown l
  let s := ((s.onCtrl l CtrlBlock.emptyQueues).dropLink l).notifyManager .linkDown (ctrlByte l) cause.notice []
  let s := s.onCtrl l (·.onLink (·.depart Config.ctrlBufferPlaces s.now cause))
  if cause.returns then s.notifyManager .linkUp (ctrlByte l) .none [] else s

/-- The departure of a Slot Link from UP (R168): its Slot Send Queue is emptied (R52), an ISSUE being sent is
lost (R49), the cause LINK_LOST is taken (R129), and after a partner restart the slot link UP event (R128). -/
def State.departSlotLink (s : State) (n : SlotIx) (cause : DepartCause) : State :=
  let s := s.onSlot n fun b =>
    { b.onLink (·.depart Config.slotBufferPlaces s.now cause) with sendQ := [] }
  let s := s.faultSlot n .linkLost
  if cause.returns then s.slotLinkUp n else s

/-! ## Causes that have waited (R97) -/

/-- A waiting cause is taken against the state as it then stands (R97). -/
def State.takeWaiting (s : State) (w : WaitingCause) : State :=
  match w with
  | .abort l tag _ => s.takeAbort l tag
  | .deadline i => s.takeDeadline i
  | .done n d => s.takeDone n d
  | .departure l cause => s.departCtrl l cause
  | .restart l tag => s.takeRestart l tag
  | .slotReset l tag n => s.takeSlotReset l tag n
  | .faultFrame n code => s.faultSlot n (.faultFrame code)
  | .orphanExpired n t => s.takeOrphanExpiry n t

/-- The link whose entry a waiting DONE is for. -/
def State.linkOfDone (s : State) (d : DoneFrame) : Option CtrlIx :=
  (s.exchange d.tag.index).map fun x => x.id.link

/-- The waiting causes in the order in which they are taken: the order in which they arose (R97), but an ABORT
of a link that departs in this event is discarded, and a DONE for an entry of that link follows the departure,
to find the orphan (R106; log 13). -/
def State.waitingOrder (s : State) : List WaitingCause :=
  let leaves (l : CtrlIx) : Bool := s.waiting.any fun w => match w with
    | .departure l' _ => l' == l && !s.mustWait w
    | _ => false
  let ofLink (l : CtrlIx) : List WaitingCause := s.waiting.filter fun w => match w with
    | .done _ d => s.linkOfDone d == some l
    | _ => false
  s.waiting.flatMap fun w => match w with
    | .abort l _ _ => if leaves l then [] else [w]
    | .done _ d =>
      match s.linkOfDone d with
      | some l => if leaves l then [] else [w]
      | none => [w]
    | .departure l _ => if leaves l then w :: ofLink l else [w]
    | _ => [w]

/-- One waiting cause in its turn: taken, when it still stands and no longer has to wait. -/
def State.resolveOne (s : State) (w : WaitingCause) : State :=
  if w ∈ s.waiting ∧ !s.mustWait w then (s.withWaiting (s.waiting.erase w)).takeWaiting w else s

/-- A transit has ended: the causes that waited for it are taken one after another (R97). -/
def State.resolveWaiting (s : State) : State := s.waitingOrder.foldl State.resolveOne s

/-- A cause arises: it is taken at once, or waits at the tail when an ISSUE in transit makes it (R97). -/
def State.arise (s : State) (w : WaitingCause) : State :=
  if s.mustWait w then s.withWaiting (s.waiting ++ [w]) else s.takeWaiting w

/-- A cause of departure arises on a link in UP. On a Controller Link it may have to wait, and one that arises
while a departure waits is discarded (R168). A Slot Link departs at once, and its lost ISSUE ends the transit
that others may have waited for (R97). -/
def State.linkLeaves (s : State) (k : LinkId) (cause : DepartCause) : State :=
  match k with
  | .ctrl l => if s.departing l then s else s.arise (.departure l cause)
  | .slot n => (s.departSlotLink n cause).resolveWaiting

/-- A link enters UP from WAIT_HELLO, and its owning block is told (R167): LINK_UP to the manager (R166), or the
slot link UP event (R128). -/
def State.linkEntersUp (s : State) (k : LinkId) (size : Nat) : State :=
  let s := s.onLink k (·.toUp size)
  match k with
  | .ctrl l => s.notifyManager .linkUp (ctrlByte l) .none []
  | .slot n => s.slotLinkUp n

end Sys2Proof.Machine
end

