-- ==== Sys2Proof/Machine/Views.lean ====
section
/-! DEFINITION. The data of the read requests READ_EXCHANGE, READ_SLOT and READ_STORE as bytes (R21, R76, R141,
R179, R180). -/

namespace Sys2Proof.Machine

open Sys2Proof

/-- The state code of READ_EXCHANGE (Section 12.3); FREE is 00h. -/
def Phase.byte : Phase → Byte
  | .queued _ => 0x01
  | .active _ _ _ => 0x02
  | .parked _ _ => 0x03
  | .cancelling _ _ _ => 0x04
  | .held _ => 0x05
  | .released _ => 0x06

/-- The pool code: 00h GENERAL, 01h RESERVE (Section 12.3). -/
def Pool.byte : Pool → Byte
  | .general => 0x00
  | .reserve => 0x01

/-- The former position code: 02h ACTIVE, 03h PARKED (Section 12.3). -/
def Position.byte : Position → Byte
  | .active => 0x02
  | .parked => 0x03

/-- The response reservation: count and pool. -/
def RespSpace.image (r : RespSpace) : List Byte := [byteOf r.blocks, r.pool.byte]

/-- The response record, origin first (Table 1.2). -/
def Response.image : Response → List Byte
  | .slot a => 0x00 :: a.outcome.byte :: a.status :: boolByte a.lateAbort :: be16 a.payload.length
  | .relay code => [0x01, code.byte]

/-- The reservation of an ended exchange, present with origin SLOT only (Table 1.5). -/
def Response.spaceImage : Response → List Byte
  | .slot a => a.space.image
  | .relay _ => []

/-- The identity fields (Section 12.3). -/
def Identity.image (id : Identity) : List Byte :=
  [ctrlByte id.link, id.tag, slotByte id.slot, id.cls.byte, boolByte id.ordered]
    ++ be32 id.admission.toNat ++ be16 id.cmdLen ++ be16 id.maxResp

/-- The fields that follow the identity fields in each state, in Table 1.5's order (R21). -/
def State.phaseImage (s : State) : Phase → List Byte
  | .queued c => [byteOf c.blocks]
  | .active (some c) r d => byteOf c.blocks :: (r.image ++ 0x00 :: be16 (s.msLeft d))
  | .active none r d => r.image ++ 0x01 :: be16 (s.msLeft d)
  | .parked r d => r.image ++ 0x01 :: be16 (s.msLeft d)
  | .cancelling r d former => r.image ++ 0x01 :: (be16 (s.msLeft d) ++ [former.byte])
  | .held r | .released r => r.spaceImage ++ r.image

/-- The READ_EXCHANGE data: index, state, generation, fenced, and the fields present in the state (R21). -/
def State.exchangeView (s : State) (i : XtIx) : List Byte :=
  let gen := byteOf (s.entry i).gen.toNat
  let fenced := boolByte (s.fenced i)
  match s.exchange i with
  | none => [byteOf i.val, 0x00, gen, fenced]
  | some x => [byteOf i.val, x.phase.byte, gen, fenced] ++ x.id.image ++ s.phaseImage x.phase

/-- OFFLINE 00h, ONLINE 01h, FAULTED 02h, RESETTING 03h. -/
def SlotState.byte : SlotState → Byte
  | .offline => 0x00
  | .online => 0x01
  | .faulted _ => 0x02
  | .resetting _ => 0x03

/-- DOWN 00h, WAIT_HELLO 01h, UP 02h. -/
def LinkState.byte : LinkState → Byte
  | .down => 0x00
  | .waitHello => 0x01
  | .up => 0x02

/-- NONE 00h, FAULT_FRAME 05h, LINK_LOST 06h, ORPHAN_EXPIRED 07h. -/
def LastFault.byte : LastFault → Byte
  | .none => 0x00
  | .faultFrame _ => 0x05
  | .linkLost => 0x06
  | .orphanExpired => 0x07

/-- The last fault code, present while the last fault cause is FAULT_FRAME (Table 8.1). -/
def LastFault.code? : LastFault → Option Byte
  | .faultFrame code => some code
  | _ => Option.none

/-- The awaited notice id and window, present in FAULTED until the acknowledgement (Table 8.1). -/
def SlotState.awaited? : SlotState → Option Awaited
  | .faulted a => a
  | _ => none

/-- The presence byte: 1 for the fault code, 2 for the awaited id, 4 for the holder, 8 for the lease (R179). -/
def SlotBlock.presence (b : SlotBlock) : Byte :=
  byteOf ((if b.lastFault.code?.isSome then 1 else 0) + (if b.state.awaited?.isSome then 2 else 0)
    + (if b.resv.holder.isSome then 4 else 0) + (if b.resv.lease.isSome then 8 else 0))

/-- The READ_SLOT data, a fixed 20 bytes; a field not present is sent as 0 (R141, R179). -/
def State.slotView (s : State) (n : SlotIx) : List Byte :=
  let b := s.slot n
  [b.state.byte, b.link.state.byte, b.lastFault.byte, b.lastFault.code?.getD 0, b.presence,
    (b.state.awaited?.map fun a => a.id).getD 0]
  ++ be16 ((b.state.awaited?.map fun a => s.msLeft a.window).getD 0)
  ++ [byteOf b.queue.length, boolByte (s.waitingCandidate n).isSome, byteOf (s.windowCount n),
    byteOf (s.parkedCount n), byteOf b.orphans.length, (b.resv.holder.map ctrlByte).getD 0]
  ++ be16 ((b.resv.lease.map s.msLeft).getD 0)
  ++ [byteOf b.resv.waiting.length]
  ++ ((b.resv.waiting.map ctrlByte) ++ [0, 0, 0]).take 3

/-- The entry whose reservation holds blocks of a link's reserve (R76). -/
def State.reserveHolder (s : State) (l : CtrlIx) : Option XtIx :=
  (List.finRange 64).find? fun i => match s.exchange i with
    | some x =>
      match x.respSpace with
      | some r => x.id.link == l && r.pool == .reserve && decide (0 < r.blocks)
      | none => false
    | none => false

/-- The READ_STORE data, 14 bytes; the holder index is FFh while absent (R76, R179, R180). -/
def State.storeView (s : State) : List Byte :=
  [byteOf s.cmdFree, byteOf s.generalFree]
  ++ (List.finRange 4).flatMap fun l =>
    [byteOf (s.reserve l), byteOf (Config.reserveBlocks - s.reserve l),
      ((s.reserveHolder l).map fun i => byteOf i.val).getD 0xFF]

end Sys2Proof.Machine
end

