-- ==== Sys2Proof/Machine/Expiries.lean ====
section
/-! DEFINITION. The meanings of the timer expiries of entries, orphans, reservations and slots, and the timer a
step takes when time may not pass (R98 to R104, R116, R133, R134). -/

namespace Sys2Proof.Machine

open Sys2Proof

/-- DEADLINE_EXPIRY (R99 to R101): for an entry in transit it waits (R97). -/
def execDeadlineExpiry (i : XtIx) (s : State) : Host.Outcome State Fault Refusal :=
  match s.deadlineTimer i with
  | some t => s.atExpiry t (·.arise (.deadline i))
  | none => s.stay

/-- ORPHAN_EXPIRY (R104): with an ISSUE of the slot in transit it waits (R97). -/
def execOrphanExpiry (n : SlotIx) (t : RelayTag) (s : State) : Host.Outcome State Fault Refusal :=
  match (s.slot n).orphan t with
  | some o =>
    if .orphanExpired n t ∈ s.waiting then s.stay else s.atExpiry o.expiry (·.arise (.orphanExpired n t))
  | none => s.stay

/-- The holder loses the reservation by its lease: RESV_REVOKED with cause LEASE, then the hand-over (R116). -/
def State.revokeLease (s : State) (n : SlotIx) : State :=
  match (s.slot n).resv.holder with
  | some l => (s.notify l .resvRevoked (slotByte n) .lease []).handOver n
  | none => s

/-- LEASE_EXPIRY (R116). -/
def execLeaseExpiry (n : SlotIx) (s : State) : Host.Outcome State Fault Refusal :=
  match (s.slot n).resv.lease with
  | some t => s.atExpiry t (·.revokeLease n)
  | none => s.stay

/-- ACKNOWLEDGE_WINDOW_EXPIRY (R133). -/
def execAcknowledgeWindowExpiry (n : SlotIx) (s : State) : Host.Outcome State Fault Refusal :=
  match (s.slot n).state.awaited? with
  | some a => s.atExpiry a.window (·.escalate n)
  | none => s.stay

/-- PULSE_END (R134): the output is released and the slot becomes OFFLINE, with no notice. -/
def execPulseEnd (n : SlotIx) (s : State) : Host.Outcome State Fault Refusal :=
  match (s.slot n).state with
  | .resetting t => s.atExpiry t (·.setSlotState n .offline)
  | _ => s.stay

/-- A timer that may wait no longer: its 1 ms slack has passed. The first of the list `timers` (log 20). -/
def State.overdue (s : State) : Option Instr :=
  (s.timers.find? fun e => decide (e.1 + Config.timerSlack ≤ s.now)).map (·.2)

/-- One cycle of REFCLK passes (Table 11.2). -/
def State.tick (s : State) : State := s.atTime (s.now + 1)

end Sys2Proof.Machine
end

