-- ==== Sys2Proof/Machine/LineEvents.lean ====
section
/-! DEFINITION. The meanings of the events at the pins and lines: HARDWARE_RESET, LINE_LOCK, LINE_UNLOCK,
LINE_LOST, CREDIT_STALL, HELLO, FRAME_RECEIVED, CREDIT (R22, R167 to R172). -/

namespace Sys2Proof.Machine

open Sys2Proof

/-- HARDWARE_RESET (R22, R143): every block takes its reset state; the queue of commands is not the part's. -/
def execHardwareReset (strap : CtrlIx) (s : State) : Host.Outcome State Fault Refusal :=
  .next { State.resetWith strap with pending := s.pending }

/-- The receive line of a link locks: a line-loss timer is stopped, and a DOWN link sends its HELLO and enters
WAIT_HELLO (R167, R168). -/
def LinkBlock.lock (places : Nat) (b : LinkBlock) : LinkBlock :=
  let b : LinkBlock := { b with locked := true, lineTimer := none }
  if b.state = .down then b.toWaitHello places else b

/-- The receive line of a link loses lock, which starts the line-loss timer of a link that is not DOWN (R168). -/
def LinkBlock.unlock (now : Nat) (b : LinkBlock) : LinkBlock :=
  { b with locked := false, lineTimer := if b.state = .down then none else some (now + Config.lineLossTime) }

/-- LINE_LOCK (R167). A line that is locked already does not lock. -/
def execLineLock (k : LinkId) (s : State) : Host.Outcome State Fault Refusal :=
  if (s.link k).locked then s.stay else (s.onLink k (·.lock (bufferPlaces k))).complete

/-- LINE_UNLOCK (R168). A line that is not locked does not lose lock. -/
def execLineUnlock (k : LinkId) (s : State) : Host.Outcome State Fault Refusal :=
  if (s.link k).locked then (s.onLink k (·.unlock s.now)).complete else s.stay

/-- The line has been lost: an UP link leaves UP with cause LINE_LOST, a WAIT_HELLO link becomes DOWN with no
notice and no fault (R167, R168). -/
def State.lineLost (s : State) (k : LinkId) : State :=
  let s := s.onLink k fun b => { b with lineTimer := none }
  match (s.link k).state with
  | .up => s.linkLeaves k .lineLost
  | .waitHello => s.onLink k fun b => { b with state := .down }
  | .down => s

/-- LINE_LOST (R168): the line-loss timer expires. -/
def execLineLost (k : LinkId) (s : State) : Host.Outcome State Fault Refusal :=
  match (s.link k).lineTimer with
  | some t => s.atExpiry t (·.lineLost k)
  | none => s.stay

/-- CREDIT_STALL (R172): the stall timer expires and the link leaves UP with that cause. -/
def execCreditStall (k : LinkId) (s : State) : Host.Outcome State Fault Refusal :=
  match (s.link k).stall with
  | some t => s.atExpiry t fun s => (s.onLink k fun b => { b with stall := none }).linkLeaves k .creditStall
  | none => s.stay

/-- A link that discards what arrives: its departure from UP waits (R168). -/
def State.linkDeparting (s : State) : LinkId → Bool
  | .ctrl l => s.departing l
  | .slot _ => false

/-- A HELLO arrives (R167, R169): well formed, in WAIT_HELLO it brings the link UP, in UP it is the cause
PARTNER_RESTART; in every other case it is discarded with no effect. DESIGN CHOICE (log 30): the line condition does
not enter, so a HELLO is taken alike while the line-loss timer runs. -/
def State.helloArrives (s : State) (k : LinkId) (frame : List Byte) : Host.Outcome State Fault Refusal :=
  match helloSize k frame, (s.link k).state with
  | some size, .waitHello => (s.linkEntersUp k size).complete
  | some size, .up =>
    if s.linkDeparting k then s.stay else (s.linkLeaves k (.partnerRestart size)).complete
  | _, _ => s.stay

/-- A frame that finds a place in the receive buffer of a link in UP (R169, R170). -/
def LinkBlock.receive (b : LinkBlock) : Arrival → LinkBlock
  | .corrupt => b.oweOther
  | .discarded count => (b.addCredits count).oweOther
  | .credit count => (b.addCredits count).oweCredit
  | .kept count f => { b.addCredits count with buffer := b.buffer ++ [f] }

/-- A frame other than HELLO arrives (R167, R169): discarded unless the link is in UP, and while a departure
waits; with no free place the link leaves UP with cause CREDIT_VIOLATION. DESIGN CHOICE (log 30): the line condition
does not enter, so a frame is taken alike while the line-loss timer runs. -/
def State.frameArrives (s : State) (k : LinkId) (a : Arrival) : Host.Outcome State Fault Refusal :=
  if (s.link k).state = .up ∧ !s.linkDeparting k then
    if bufferPlaces k ≤ (s.link k).buffer.length then (s.linkLeaves k .creditViolation).complete
    else (s.onLink k (·.receive a)).complete
  else s.stay

/-- HELLO (R167). A frame of another kind under this name is taken for what its kind byte says. -/
def execHello (k : LinkId) (frame : List Byte) (s : State) : Host.Outcome State Fault Refusal :=
  if frame.head? = some helloKind then s.helloArrives k frame else s.frameArrives k (checkFrame k frame)

/-- FRAME_RECEIVED (R169). A HELLO under this name is taken for what its kind byte says. -/
def execFrameReceived (k : LinkId) (frame : List Byte) (s : State) : Host.Outcome State Fault Refusal :=
  if frame.head? = some helloKind then s.helloArrives k frame else s.frameArrives k (checkFrame k frame)

/-- CREDIT (R170): a CREDIT frame that passes its checks. With a credit return count above 16 it is malformed
(R177). -/
def execCredit (k : LinkId) (count : Byte) (s : State) : Host.Outcome State Fault Refusal :=
  s.frameArrives k (if count.toNat ≤ Config.maxCreditReturn then .credit count.toNat else .corrupt)

end Sys2Proof.Machine
end

