-- ==== Sys2Proof/Machine/Admission.lean ====
section
/-! DEFINITION. Taking frames out of a Controller Link's receive buffer (R173), and the meanings of CMD_OFFERED,
CMD and ABORT (Section 2, R90). -/

namespace Sys2Proof.Machine

open Sys2Proof

/-- A Controller Link may take a frame out of its receive buffer (R173): it is UP, its Reply Queue has room, it
has no CMD offered, no ABORT or MGMT of it waits on a transit, and its departure does not wait (R168). -/
def State.mayTakeFrame (s : State) (l : CtrlIx) : Bool :=
  let b := s.ctrl l
  b.link.state == .up && decide (b.replyQ.length < Config.replyPlaces) && b.offered.isNone
    && !s.ctrlWaits l && !s.departing l

/-- The frame leaves the receive buffer: its place is freed and one credit is owed (R173, R174). -/
def LinkBlock.takeHead (b : LinkBlock) : LinkBlock := { b.oweOther with buffer := b.buffer.tail }

/-- The oldest frame of a Controller Link's receive buffer, when the link may take it (R173). -/
def State.nextFrame (s : State) (l : CtrlIx) : Option RxFrame :=
  if s.mayTakeFrame l then (s.ctrl l).link.buffer.head? else none

/-- The state with the oldest frame of a Controller Link's buffer taken out. -/
def State.tookFrame (s : State) (l : CtrlIx) : State := s.onCtrl l (·.onLink (·.takeHead))

/-- CMD_OFFERED (R24): the link takes a CMD and offers it to the Admission Unit. -/
def execCmdOffered (l : CtrlIx) (s : State) : Host.Outcome State Fault Refusal :=
  match s.nextFrame l with
  | some (.cmd c) => ((s.tookFrame l).onCtrl l fun b => { b with offered := some c }).complete
  | _ => s.stay

/-- The access check of a CMD fails (R31, Table 9.2). -/
def accessRefuses (a : Access) (cls : CmdClass) : Bool :=
  match a, cls with
  | .none, _ => true
  | .query, .action => true
  | .query, .query => false
  | .full, _ => false

/-- A controller link other than the CMD's own holds the slot (R33). -/
def State.heldByOther (s : State) (l : CtrlIx) (n : SlotIx) : Bool :=
  match (s.slot n).resv.holder with
  | some h => h != l
  | none => false

/-- The admission checks of Table 2.1 in their order (R26, R30 to R38): the relay code of the first that fails,
or the slot and the Exchange Table index of the admission. -/
def State.admissionCheck (s : State) (l : CtrlIx) (c : CmdFrame) : Except RelayCode (SlotIx × XtIx) :=
  if Config.maxPayload < c.payload.length ∨ Config.maxPayload < c.maxResp then .error .badLength
  else match slotOfByte c.slotAddr with
    | none => .error .noSlot
    | some n =>
      if accessRefuses (s.access l n) c.cls then .error .noAccess
      else if !(s.slotConfig n).enabled then .error .slotDisabled
      else if (s.slot n).state ≠ .online then .error .slotUnavailable
      else if c.cls = .action ∧ s.heldByOther l n then .error .reserved
      else if (s.tagged l c.tag).isSome then .error .tagInUse
      else if (s.ctrlConfig l).openLimit ≤ s.liveCount l then .error .openLimit
      else match s.allocatable with
        | none => .error .tableFull
        | some i =>
          if (s.slotConfig n).queueLimit ≤ (s.slot n).queue.length then .error .queueFull
          else if s.cmdFree < blockCount c.payload.length then .error .storeFull
          else .ok (n, i)

/-- The exchange an admitted CMD becomes (R29). -/
def State.admittedExchange (s : State) (l : CtrlIx) (c : CmdFrame) (n : SlotIx) : Exchange where
  id :=
    { link := l, tag := c.tag, slot := n, cls := c.cls, ordered := c.ordered,
      admission := s.admissionCounter, cmdLen := c.payload.length, maxResp := c.maxResp }
  phase := .queued { blocks := blockCount c.payload.length, payload := c.payload }

/-- Admission of a CMD at slot n on index i (R28, R29). -/
def State.admitCmd (s : State) (l : CtrlIx) (c : CmdFrame) (n : SlotIx) (i : XtIx) : State :=
  let s1 := s.putExchange i (s.admittedExchange l c n)
  let s2 := { s1 with
    admissionOrder := s1.admissionOrder ++ [i]
    admissionCounter := s1.admissionCounter + 1
    cmdFree := s1.cmdFree - blockCount c.payload.length }
  let s3 := s2.onSlot n fun b => { b with queue := b.queue ++ [i] }
  if c.ordered then s3.onCtrl l fun b => { b with orderList := b.orderList ++ [i] } else s3

/-- The links in rotating order, beginning with the one that follows the rotation pointer (R25). -/
def State.rotatingOrder (s : State) : List CtrlIx :=
  [s.rotation + 1, s.rotation + 2, s.rotation + 3, s.rotation]

/-- The link whose offered CMD the Admission Unit takes next (R25). Offering and taking are two events. DESIGN CHOICE
(log 28): the unit reads the offers and the pointer when it takes, so a lone offer that another link's joins before
the taking is arbitrated with it. -/
def State.nextOffer (s : State) : Option CtrlIx :=
  s.rotatingOrder.find? fun l => (s.ctrl l).offered.isSome

/-- The Admission Unit takes the CMD c of link l: the offer ends, the pointer names the link (R24, R25), and the
CMD is admitted or refused with the code of the first failing check (R26, R27). -/
def State.takeCmd (s : State) (l : CtrlIx) (c : CmdFrame) : State :=
  let s := { s.onCtrl l fun b => { b with offered := none } with rotation := l }
  match s.admissionCheck l c with
  | .ok (n, i) => s.admitCmd l c n i
  | .error code => s.queueReply l (.refusal c.tag code)

/-- CMD (R26). -/
def execCmd (s : State) : Host.Outcome State Fault Refusal :=
  match s.nextOffer with
  | some l =>
    match (s.ctrl l).offered with
    | some c => (s.takeCmd l c).complete
    | none => s.stay
  | none => s.stay

/-- ABORT (R90): the Exchange Table takes it, unless its entry is in transit, when it waits (R97). -/
def execAbort (l : CtrlIx) (s : State) : Host.Outcome State Fault Refusal :=
  match s.nextFrame l with
  | some (.abort tag) =>
    let s := s.tookFrame l
    match s.tagged l tag with
    | some i => (s.arise (.abort l tag i)).complete
    | none => (s.takeAbort l tag).complete
  | _ => s.stay

end Sys2Proof.Machine
end

