-- ==== Sys2Proof/Machine/Mgmt.lean ====
section
/-! DEFINITION. The meanings of the management requests (Sections 9 and 10, R76, R132, R135, R136, R141). -/

namespace Sys2Proof.Machine

open Sys2Proof

/-! ## Request codes (Table 12.4) -/

/-- READ_IDENT. -/
def readIdentCode : Byte := 0x01
/-- READ_ENTRY. -/
def readEntryCode : Byte := 0x02
/-- READ_SLOT. -/
def readSlotCode : Byte := 0x03
/-- READ_EXCHANGE. -/
def readExchangeCode : Byte := 0x04
/-- READ_STORE. -/
def readStoreCode : Byte := 0x05
/-- WRITE_ENTRY. -/
def writeEntryCode : Byte := 0x06
/-- REVERT. -/
def revertCode : Byte := 0x07
/-- ACTIVATE. -/
def activateCode : Byte := 0x08
/-- NOTICE_ACK. -/
def noticeAckCode : Byte := 0x09
/-- SLOT_CLEAR. -/
def slotClearCode : Byte := 0x0A
/-- SLOT_RESET. -/
def slotResetCode : Byte := 0x0B
/-- RELAY_RESTART. -/
def relayRestartCode : Byte := 0x0C

/-- A request code that names one of the twelve requests of Table 10.1 (R156, check 1). -/
def knownRequest (code : Byte) : Bool := decide (1 ≤ code.toNat) && decide (code.toNat ≤ 12)

/-! ## Taking a request -/

/-- A Controller Link takes a MGMT frame whose request code is the one asked for, and the Management Unit takes
it in the same event (R155, R173). -/
def State.mgmtRequest (s : State) (l : CtrlIx) (wanted : Byte → Bool)
    (effect : Byte → List Byte → State → State) : Host.Outcome State Fault Refusal :=
  match s.nextFrame l with
  | some (.mgmt tag code args) =>
    if wanted code then (effect tag args (s.tookFrame l)).complete else s.stay
  | _ => s.stay

/-- Privilege, check 2 of R156: a request that is not a read is NOT_MANAGER from any link but the manager. -/
def State.privileged (s : State) (l : CtrlIx) (tag : Byte) (effect : State → State) : State :=
  if s.isManager l then effect s else s.answer l tag .notManager []

/-- Argument form, check 3 of R156: a request that takes no argument. -/
def State.noArgs (s : State) (l : CtrlIx) (tag : Byte) (args : List Byte) (effect : State → State) : State :=
  match args with
  | [] => effect s
  | _ => s.answer l tag .badRequest []

/-- Argument form, check 3 of R156: a request that takes one byte. -/
def State.oneArg (s : State) (l : CtrlIx) (tag : Byte) (args : List Byte) (effect : Byte → State → State) : State :=
  match args with
  | [a] => effect a s
  | _ => s.answer l tag .badRequest []

/-! ## Read requests -/

/-- The data of READ_IDENT: part code and revision (R158, R179). -/
def identData : List Byte := be16 Config.partCode ++ [byteOf Config.revision]

/-- READ_IDENT (R158). -/
def execReadIdent (l : CtrlIx) (s : State) : Host.Outcome State Fault Refusal :=
  s.mgmtRequest l (· == readIdentCode) fun tag args s =>
    s.noArgs l tag args fun s => s.answer l tag .ok identData

/-- The image and the epoch that READ_ENTRY returns, none for a table, bank or index out of range (R147). -/
def State.entryData (s : State) (table bank index : Byte) : Option (List Byte) := do
  let t ← tableOfByte table
  let b ← if bank = 0 then some s.staged else if bank = 1 then some s.active else none
  let image ← b.image t index.toNat
  some (image ++ be16 s.epoch.toNat)

/-- READ_ENTRY (R147). -/
def execReadEntry (l : CtrlIx) (s : State) : Host.Outcome State Fault Refusal :=
  s.mgmtRequest l (· == readEntryCode) fun tag args s =>
    match args with
    | [table, bank, index] =>
      match s.entryData table bank index with
      | some data => s.answer l tag .ok data
      | none => s.answer l tag .badRequest []
    | _ => s.answer l tag .badRequest []

/-- READ_SLOT (R141). -/
def execReadSlot (l : CtrlIx) (s : State) : Host.Outcome State Fault Refusal :=
  s.mgmtRequest l (· == readSlotCode) fun tag args s =>
    s.oneArg l tag args fun addr s =>
      match slotOfByte addr with
      | some n => s.answer l tag .ok (s.slotView n)
      | none => s.answer l tag .badValue []

/-- READ_EXCHANGE (R20, R21). -/
def execReadExchange (l : CtrlIx) (s : State) : Host.Outcome State Fault Refusal :=
  s.mgmtRequest l (· == readExchangeCode) fun tag args s =>
    s.oneArg l tag args fun index s =>
      match indexOfByte index with
      | some i => s.answer l tag .ok (s.exchangeView i)
      | none => s.answer l tag .badValue []

/-- READ_STORE (R76). -/
def execReadStore (l : CtrlIx) (s : State) : Host.Outcome State Fault Refusal :=
  s.mgmtRequest l (· == readStoreCode) fun tag args s =>
    s.noArgs l tag args fun s => s.answer l tag .ok s.storeView

/-! ## Table requests -/

/-- The checks of WRITE_ENTRY after the privilege check, and its result (R148). -/
def State.writeEntry (s : State) (args : List Byte) : Except ReplyResult Bank :=
  match args with
  | table :: index :: image =>
    match tableOfByte table with
    | none => .error .badRequest
    | some t =>
      if t.entries ≤ index.toNat ∨ image.length ≠ t.imageLength then .error .badRequest
      else match s.staged.write t index.toNat image with
        | some bank => .ok bank
        | none => .error .badValue
  | _ => .error .badRequest

/-- WRITE_ENTRY (R148). -/
def execWriteEntry (l : CtrlIx) (s : State) : Host.Outcome State Fault Refusal :=
  s.mgmtRequest l (· == writeEntryCode) fun tag args s =>
    s.privileged l tag fun s =>
      match s.writeEntry args with
      | .ok bank => { s with staged := bank }.answer l tag .ok []
      | .error result => s.answer l tag result []

/-- REVERT (R149). -/
def execRevert (l : CtrlIx) (s : State) : Host.Outcome State Fault Refusal :=
  s.mgmtRequest l (· == revertCode) fun tag args s =>
    s.privileged l tag fun s =>
      s.noArgs l tag args fun s => { s with staged := s.active }.answer l tag .ok []

/-- The links that a bank's Controller Table marks as manager. -/
def Bank.managers (b : Bank) : List CtrlIx := (List.finRange 4).filter fun l => b.control[l].manager

/-- The checks of ACTIVATE on the staged Controller Table in their order: the result of the first that fails, or
the link the staged bank names (R150). -/
def State.activateCheck (s : State) : Except ReplyResult CtrlIx :=
  match s.staged.managers with
  | [] => .error .noManager
  | [l] => if (s.ctrl l).link.state = .up then .ok l else .error .managerDown
  | _ => .error .twoManagers

/-- One QUEUED exchange of a slot that an activation disables ends SLOT_DISABLED (R64). -/
def State.disableOne (s : State) (i : XtIx) : State :=
  match s.exchange i with
  | some x => if x.isQueued then s.endExchange i (.relay .slotDisabled) false else s
  | none => s

/-- A slot that changes from enabled to disabled has its QUEUED exchanges ended, head first (R64). -/
def State.disableSlot (s : State) (old : Bank) (n : SlotIx) : State :=
  if old.slotTable[n].enabled ∧ !(s.slotConfig n).enabled then (s.slot n).queue.foldl State.disableOne s else s

/-- TABLE_ACTIVATED for a link that is UP: the new manager as subject, the new epoch as data (R151). -/
def State.announce (s : State) (newManager l : CtrlIx) : State :=
  if (s.ctrl l).link.state = .up then
    s.notify l .tableActivated (ctrlByte newManager) .none (be16 s.epoch.toNat)
  else s

/-- The steps of an accepted ACTIVATE in their order, but for the REPLY: copy, epoch, work in flight, notices
(R151). -/
def State.activateNow (s : State) (newManager : CtrlIx) : State :=
  let old := s.active
  let s := { s with active := s.staged, epoch := s.epoch + 1 }
  let s := (List.finRange 8).foldl (fun s n => s.disableSlot old n) s
  (List.finRange 4).foldl (fun s l => s.announce newManager l) s

/-- ACTIVATE (R150, R151). -/
def execActivate (l : CtrlIx) (s : State) : Host.Outcome State Fault Refusal :=
  s.mgmtRequest l (· == activateCode) fun tag args s =>
    s.privileged l tag fun s =>
      s.noArgs l tag args fun s =>
        match s.activateCheck with
        | .ok m => (s.activateNow m).answer l tag .ok []
        | .error result => s.answer l tag result []

/-! ## Slot requests -/

/-- A slot awaits a notice id (R132). -/
def State.awaits (s : State) (id : Byte) (n : SlotIx) : Bool :=
  match (s.slot n).state.awaited? with
  | some a => a.id == id
  | none => false

/-- A slot that awaits the id has its window stopped and the id removed; it stays FAULTED (R132). -/
def State.acknowledge (s : State) (id : Byte) (n : SlotIx) : State :=
  if s.awaits id n then s.setSlotState n (.faulted none) else s

/-- NOTICE_ACK (R132). -/
def execNoticeAck (l : CtrlIx) (s : State) : Host.Outcome State Fault Refusal :=
  s.mgmtRequest l (· == noticeAckCode) fun tag args s =>
    s.privileged l tag fun s =>
      s.oneArg l tag args fun id s =>
        if (List.finRange 8).any (s.awaits id) then
          ((List.finRange 8).foldl (fun s n => s.acknowledge id n) s).answer l tag .ok []
        else s.answer l tag .noticeUnknown []

/-- A FAULTED slot is cleared: ONLINE with SLOT_ONLINE when its link is UP, else OFFLINE (R135). -/
def State.clearSlot (s : State) (n : SlotIx) : State :=
  if (s.slot n).link.state = .up then
    (s.setSlotState n .online).notifyManager .slotOnline (slotByte n) .none []
  else s.setSlotState n .offline

/-- SLOT_CLEAR (R135). -/
def execSlotClear (l : CtrlIx) (s : State) : Host.Outcome State Fault Refusal :=
  s.mgmtRequest l (· == slotClearCode) fun tag args s =>
    s.privileged l tag fun s =>
      s.oneArg l tag args fun addr s =>
        match slotOfByte addr with
        | none => s.answer l tag .badValue []
        | some n =>
          match (s.slot n).state with
          | .faulted _ => (s.clearSlot n).answer l tag .ok []
          | .online | .offline | .resetting _ => s.answer l tag .wrongState []

/-- SLOT_RESET (R136): on an ONLINE slot with an ISSUE in transit it waits (R97, R155). -/
def execSlotReset (l : CtrlIx) (s : State) : Host.Outcome State Fault Refusal :=
  s.mgmtRequest l (· == slotResetCode) fun tag args s =>
    s.privileged l tag fun s =>
      s.oneArg l tag args fun addr s =>
        match slotOfByte addr with
        | none => s.answer l tag .badValue []
        | some n => s.arise (.slotReset l tag n)

/-! ## RELAY_RESTART and unknown requests -/

/-- RELAY_RESTART (R159): with an ISSUE in transit it waits (R97, R155). -/
def execRelayRestart (l : CtrlIx) (s : State) : Host.Outcome State Fault Refusal :=
  s.mgmtRequest l (· == relayRestartCode) fun tag args s =>
    s.privileged l tag fun s =>
      s.noArgs l tag args fun s => s.arise (.restart l tag)

/-- MGMT_UNKNOWN_REQUEST (R156): answered BAD_REQUEST, whatever link sent it. -/
def execMgmtUnknownRequest (l : CtrlIx) (s : State) : Host.Outcome State Fault Refusal :=
  s.mgmtRequest l (!knownRequest ·) fun tag _ s => s.answer l tag .badRequest []

end Sys2Proof.Machine
end

