-- ==== Sys2Proof/Machine/Resv.lean ====
section
/-! DEFINITION. The meanings of the RESV requests TAKE, RENEW and DROP (R111 to R114). -/

namespace Sys2Proof.Machine

open Sys2Proof

/-- A REPLY of request kind RESV (R111). -/
def State.answerResv (s : State) (l : CtrlIx) (tag : Byte) (result : ReplyResult) (data : List Byte) : State :=
  s.queueReply l (.reply tag .resv result data)

/-- The position of a waiter, 1 for the front (R109). -/
def waiterPosition (waiting : List CtrlIx) (l : CtrlIx) : Nat := waiting.idxOf l + 1

/-- A TAKE for a valid slot (R112). At a grant the REPLY is made before the preempted exchanges end (R119). -/
def State.takeTake (s : State) (l : CtrlIx) (tag : Byte) (n : SlotIx) : State :=
  let r := (s.slot n).resv
  if s.access l n ≠ .full then s.answerResv l tag .noAccess []
  else match r.holder with
    | none => ((s.makeHolder n l).answerResv l tag .granted []).preempt n l
    | some h =>
      if h = l then (s.startLease n).answerResv l tag .granted []
      else if l ∈ r.waiting then s.answerResv l tag .queued [byteOf (waiterPosition r.waiting l)]
      else (s.onResv n fun r => { r with waiting := r.waiting ++ [l] }).answerResv l tag .queued
        [byteOf (r.waiting.length + 1)]

/-- A RENEW for a valid slot (R113). -/
def State.takeRenew (s : State) (l : CtrlIx) (tag : Byte) (n : SlotIx) : State :=
  if (s.slot n).resv.holder = some l then (s.startLease n).answerResv l tag .renewed []
  else s.answerResv l tag .notHolder []

/-- A DROP for a valid slot: from the holder the REPLY is appended and then the hand-over runs (R114). -/
def State.takeDrop (s : State) (l : CtrlIx) (tag : Byte) (n : SlotIx) : State :=
  let r := (s.slot n).resv
  if r.holder = some l then (s.answerResv l tag .dropped []).handOver n
  else if l ∈ r.waiting then
    (s.onResv n fun r => { r with waiting := r.waiting.filter (· != l) }).answerResv l tag .dropped []
  else s.answerResv l tag .notHolder []

/-- A RESV is taken: a slot address above 7 is answered NO_SLOT for every kind (R111). -/
def State.takeResv (s : State) (l : CtrlIx) (tag slotAddr : Byte) (effect : State → SlotIx → State) : State :=
  match slotOfByte slotAddr with
  | some n => effect s n
  | none => s.answerResv l tag .noSlot []

/-- A Controller Link takes a RESV of the given kind and the Reservation Unit takes it in the same event (R111,
R173). -/
def State.resvRequest (s : State) (l : CtrlIx) (kind : ResvKind)
    (effect : Byte → State → SlotIx → State) : Host.Outcome State Fault Refusal :=
  match s.nextFrame l with
  | some (.resv tag k slotAddr) =>
    if k = kind then ((s.tookFrame l).takeResv l tag slotAddr (effect tag)).complete else s.stay
  | _ => s.stay

/-- TAKE (R112). -/
def execTake (l : CtrlIx) (s : State) : Host.Outcome State Fault Refusal :=
  s.resvRequest l .take fun tag s n => s.takeTake l tag n

/-- RENEW (R113). -/
def execRenew (l : CtrlIx) (s : State) : Host.Outcome State Fault Refusal :=
  s.resvRequest l .renew fun tag s n => s.takeRenew l tag n

/-- DROP (R114). -/
def execDrop (l : CtrlIx) (s : State) : Host.Outcome State Fault Refusal :=
  s.resvRequest l .drop fun tag s n => s.takeDrop l tag n

end Sys2Proof.Machine
end

