-- ==== Sys2Proof/Machine/Scheduling.lean ====
section
/-! DEFINITION. The Slot Schedulers' issues and the Response Store's grants: ISSUE, GENERAL_GRANT, RESERVE_GRANT,
OVERTAKING_ISSUE (R45 to R48, R69, R73 to R75). -/

namespace Sys2Proof.Machine

open Sys2Proof

/-- The deadline an issue at slot n sets: one active deadline ahead (R48). -/
def State.activeDeadlineFrom (s : State) (n : SlotIx) : Nat :=
  s.now + (s.slotConfig n).activeDeadline * Config.cyclesPerMs

/-- An issue: the exchange leaves its Slot Queue, its response reservation is taken and recorded, it becomes
ACTIVE with issue sent = no and its deadline started, and its ISSUE is appended (R48, R69). Only a QUEUED
exchange is issued. -/
def State.issueExchange (s : State) (i : XtIx) (pool : Pool) : State :=
  match s.exchange i with
  | some x =>
    match x.phase with
    | .queued c =>
      let n := x.id.slot
      let s1 := (s.leaveSlotQueue n i).takeResp x.id.link pool x.need
      let s2 := s1.setPhase i (.active (some c) { blocks := x.need, pool } (s.activeDeadlineFrom n))
      s2.queueSend n (.issue (s.relayTag i))
    | _ => s
  | none => s

/-- ISSUE (R48, R46): a candidate whose need is 0 is issued with count 0 and pool GENERAL. A candidate with a
need of 1 to 4 is issued in the event of its grant (log 18). -/
def execIssue (n : SlotIx) (s : State) : Host.Outcome State Fault Refusal :=
  match s.candidate n with
  | some i =>
    match s.exchange i with
    | some x => if x.need = 0 then (s.issueExchange i .general).complete else s.stay
    | none => s.stay
  | none => s.stay

/-- GENERAL_GRANT (R73). -/
def execGeneralGrant (s : State) : Host.Outcome State Fault Refusal :=
  match s.generalServes with
  | some i => (s.issueExchange i .general).complete
  | none => s.stay

/-- RESERVE_GRANT (R74): the order head of the link is a waiting candidate, its reserve is free, and the general
pool does not grant it at this moment. -/
def execReserveGrant (l : CtrlIx) (s : State) : Host.Outcome State Fault Refusal :=
  match s.orderHead l with
  | some i =>
    if s.isWaiting i ∧ s.reserveIsFree l ∧ s.generalServes ≠ some i then (s.issueExchange i .reserve).complete
    else s.stay
  | none => s.stay

/-- OVERTAKING_ISSUE (R47, R75): from the link's reserve, or with a need of 0 with count 0 and pool GENERAL. -/
def execOvertakingIssue (n : SlotIx) (s : State) : Host.Outcome State Fault Refusal :=
  match s.overtaker n with
  | some i =>
    match s.exchange i with
    | some x => (s.issueExchange i (if x.need = 0 then .general else .reserve)).complete
    | none => s.stay
  | none => s.stay

end Sys2Proof.Machine
end

