-- ==== Sys2Proof/Machine/Sending.lean ====
section
/-! DEFINITION. The meanings of the events of the transmit arbiters: a frame begins to leave, and its last byte
has left (R49, R85, R86, R163, R171, R175, R176). -/

namespace Sys2Proof.Machine

open Sys2Proof

/-! ## A frame begins to leave -/

/-- The bytes of a frame of a Slot Send Queue as it begins to leave (R49); none for an ISSUE whose entry does
not hold its command payload, which does not arise (R50). -/
def State.slotFrameBytes (s : State) (count : Nat) : SlotFrame → Option (List Byte)
  | .issue t =>
    match s.exchange t.index with
    | some x => x.cmdSpace.map fun c => issueBytes count t x.id c.payload
    | none => none
  | .cancel t => some (cancelBytes count t)
  | .keep t => some (keepBytes count t)

/-- The frame is an ISSUE that a waiting cause holds back (R97, R176). -/
def State.frameHeldBack (s : State) : SlotFrame → Bool
  | .issue t => s.heldBack t.index
  | .cancel _ | .keep _ => false

/-- A CREDIT frame is called for: a credit is owed for a frame other than CREDIT (R171). -/
def LinkBlock.owesCreditFrame (b : LinkBlock) : Bool := decide (1 ≤ b.owedOther)

/-- A CREDIT frame begins to leave (R171). -/
def LinkBlock.beginCredit (b : LinkBlock) : LinkBlock := b.begin .credit (creditBytes b.returnCount)

/-- What a Slot Link sends next: the oldest frame of its Slot Send Queue with its bytes, when it is not held
back (R176). -/
def State.nextSlotSend (s : State) (n : SlotIx) : Option (SlotFrame × List Byte) :=
  match (s.slot n).sendQ with
  | [] => none
  | f :: _ =>
    if s.frameHeldBack f then none
    else (s.slotFrameBytes (s.slot n).link.returnCount f).map fun bytes => (f, bytes)

/-- SLOT_LINK_SEND (R176): the oldest frame of the queue, or a CREDIT frame where R171 calls for one (log 9). -/
def execSlotLinkSend (n : SlotIx) (s : State) : Host.Outcome State Fault Refusal :=
  if (s.slot n).link.mayBegin then
    match s.nextSlotSend n with
    | some (f, bytes) => (s.onSlot n (·.onLink (·.begin (.slotFrame f) bytes))).complete
    | none =>
      if (s.slot n).link.owesCreditFrame then (s.onSlot n (·.onLink (·.beginCredit))).complete else s.stay
  else s.stay

/-- The bytes of the RESP of the entry at the head of a Release Queue, built as it begins to leave (R85). -/
def State.respOf (s : State) (count : Nat) (i : XtIx) : Option (List Byte) :=
  match s.exchange i with
  | some x =>
    match x.phase with
    | .released r => some (respBytes count x.id.tag r)
    | _ => none
  | none => none

/-- What a Controller Link sends next from its queues, with its bytes: the Reply Queue first, then the Notice
Queue, then the Release Queue (R175). -/
def State.nextCtrlSend (s : State) (l : CtrlIx) : Option (Sending × List Byte) :=
  let b := s.ctrl l
  let count := b.link.returnCount
  match b.replyQ, b.noticeQ, b.releaseQ with
  | r :: _, _, _ => some (.reply, r.bytes count)
  | [], m :: _, _ => some (.notice b.lost, m.bytes count b.lost)
  | [], [], i :: _ => (s.respOf count i).map fun bytes => (.resp, bytes)
  | [], [], [] => none

/-- A notice that begins to leave takes the lost flag with it and clears it (R163). -/
def CtrlBlock.clearLost (what : Sending) (b : CtrlBlock) : CtrlBlock :=
  match what with
  | .notice _ => { b with lost := false }
  | _ => b

/-- CONTROLLER_LINK_SEND (R175): while a departure waits the link begins no frame (R168). -/
def execControllerLinkSend (l : CtrlIx) (s : State) : Host.Outcome State Fault Refusal :=
  if (s.ctrl l).link.mayBegin ∧ !s.departing l then
    match s.nextCtrlSend l with
    | some (what, bytes) => (s.onCtrl l fun b => (b.onLink (·.begin what bytes)).clearLost what).complete
    | none =>
      if (s.ctrl l).link.owesCreditFrame then (s.onCtrl l (·.onLink (·.beginCredit))).complete else s.stay
  else s.stay

/-! ## The last byte of a frame has left -/

/-- The link has sent its frame; a frame still at the head of the Slot Send Queue leaves it (R176). -/
def SlotBlock.sent (b : SlotBlock) : SlotBlock :=
  { b.onLink (·.endSend) with sendQ := if b.sendingHead then b.sendQ.tail else b.sendQ }

/-- The entry whose ISSUE has left: issue sent = yes, its command blocks returned (R49). -/
def State.markSent (s : State) (i : XtIx) : State :=
  match s.exchange i with
  | some x =>
    match x.phase with
    | .active (some c) space d => (s.returnCmd (some c)).setPhase i (.active none space d)
    | _ => s
  | none => s

/-- ISSUE_SENT (R49): the entry is marked, and then the causes that waited for this transit are taken (R97). -/
def execIssueSent (n : SlotIx) (s : State) : Host.Outcome State Fault Refusal :=
  match (s.slot n).link.sending with
  | some (.slotFrame (.issue t)) =>
    ((s.onSlot n (·.sent)).markSent t.index).resolveWaiting.complete
  | _ => s.stay

/-- CANCEL_SENT (R176). -/
def execCancelSent (n : SlotIx) (s : State) : Host.Outcome State Fault Refusal :=
  match (s.slot n).link.sending with
  | some (.slotFrame (.cancel _)) => (s.onSlot n (·.sent)).complete
  | _ => s.stay

/-- KEEP_SENT (R176). -/
def execKeepSent (n : SlotIx) (s : State) : Host.Outcome State Fault Refusal :=
  match (s.slot n).link.sending with
  | some (.slotFrame (.keep _)) => (s.onSlot n (·.sent)).complete
  | _ => s.stay

/-- CREDIT_SENT (R171). -/
def execCreditSent (k : LinkId) (s : State) : Host.Outcome State Fault Refusal :=
  match (s.link k).sending with
  | some .credit => (s.onLink k (·.endSend)).complete
  | _ => s.stay

/-- REPLY_SENT (R175): the entry leaves the head of the Reply Queue. -/
def execReplySent (l : CtrlIx) (s : State) : Host.Outcome State Fault Refusal :=
  match (s.ctrl l).link.sending with
  | some .reply => (s.onCtrl l fun b => { b.onLink (·.endSend) with replyQ := b.replyQ.tail }).complete
  | _ => s.stay

/-- NOTICE_SENT (R163): the notice leaves the head of the Notice Queue. -/
def execNoticeSent (l : CtrlIx) (s : State) : Host.Outcome State Fault Refusal :=
  match (s.ctrl l).link.sending with
  | some (.notice _) => (s.onCtrl l fun b => { b.onLink (·.endSend) with noticeQ := b.noticeQ.tail }).complete
  | _ => s.stay

/-- RESP sent (R86): the entry at the head of the Release Queue leaves it, returns its blocks and becomes FREE
with its generation advanced (R19). -/
def State.respSent (s : State) (l : CtrlIx) : State :=
  let s := s.onCtrl l (·.onLink (·.endSend))
  match (s.ctrl l).releaseQ with
  | i :: _ =>
    match s.exchange i with
    | some x => s.freeEntry i x none
    | none => s
  | [] => s

/-- RESP_SENT (R86). -/
def execRespSent (l : CtrlIx) (s : State) : Host.Outcome State Fault Refusal :=
  match (s.ctrl l).link.sending with
  | some .resp => (s.respSent l).complete
  | _ => s.stay

end Sys2Proof.Machine
end

