-- ==== Sys2Proof/Machine/SlotFrames.lean ====
section
/-! DEFINITION. The meanings of the frames taken out of a Slot Link's receive buffer: PARK, DONE, FAULT
(R53 to R61, R129, R174). -/

namespace Sys2Proof.Machine

open Sys2Proof

/-- The oldest frame of a Slot Link's receive buffer, when the link may take it: it is UP, and no DONE or FAULT
of it waits on a transit (R174). -/
def State.nextSlotFrame (s : State) (n : SlotIx) : Option RxFrame :=
  if (s.slot n).link.state = .up ∧ !s.slotWaits n then (s.slot n).link.buffer.head? else none

/-- The state with the oldest frame of a Slot Link's buffer taken out (R174). -/
def State.tookSlotFrame (s : State) (n : SlotIx) : State := s.onSlot n (·.onLink (·.takeHead))

/-- The deadline a PARK below the limit sets: one parked deadline ahead (R55). -/
def State.parkedDeadlineFrom (s : State) (n : SlotIx) : Nat :=
  s.now + (s.slotConfig n).parkedDeadline * 100 * Config.cyclesPerMs

/-- A PARK is taken (R54 to R56): an entry of the slot with the tag's generation that is ACTIVE with issue
sent = yes becomes PARKED while the parked count is below the limit, and else is answered KEEP, unless one for
the tag is already in the queue. Every other PARK is discarded. -/
def State.takePark (s : State) (n : SlotIx) (t : RelayTag) : State :=
  match s.exchange t.index with
  | some x =>
    match x.phase with
    | .active none space _ =>
      if s.tagNames n t x then
        if s.parkedCount n < (s.slotConfig n).parkedLimit then
          (s.setPhase t.index (.parked space (s.parkedDeadlineFrom n))).withdrawSend n (.keep t)
        else if .keep t ∈ (s.slot n).sendQ then s
        else s.queueSend n (.keep t)
      else s
    | _ => s
  | none => s

/-- PARK (R54). -/
def execPark (n : SlotIx) (s : State) : Host.Outcome State Fault Refusal :=
  match s.nextSlotFrame n with
  | some (.park t) => ((s.tookSlotFrame n).takePark n t).complete
  | _ => s.stay

/-- DONE (R57): one that matches an entry in transit waits (R97). -/
def execDone (n : SlotIx) (s : State) : Host.Outcome State Fault Refusal :=
  match s.nextSlotFrame n with
  | some (.done d) =>
    let s := s.tookSlotFrame n
    if (s.doneEntry n d.tag).isSome then (s.arise (.done n d)).complete else (s.takeDone n d).complete
  | _ => s.stay

/-- FAULT (R129): the fault cause FAULT_FRAME; on a slot with an ISSUE in transit it waits (R97, R130). -/
def execFault (n : SlotIx) (s : State) : Host.Outcome State Fault Refusal :=
  match s.nextSlotFrame n with
  | some (.fault code) => ((s.tookSlotFrame n).arise (.faultFrame n code)).complete
  | _ => s.stay

end Sys2Proof.Machine
end

