-- ==== Sys2Proof/Machine/Dispatch.lean ====
section
/-! DEFINITION. One arm per command, each a direct call of its meaning. -/

namespace Sys2Proof.Machine

open Sys2Proof

def exec (i : Instr) (s : State) : Host.Outcome State Fault Refusal :=
  match i with
  | .hardwareReset strap => Sys2Proof.Machine.execHardwareReset strap s
  | .lineLock k => Sys2Proof.Machine.execLineLock k s
  | .lineUnlock k => Sys2Proof.Machine.execLineUnlock k s
  | .lineLost k => Sys2Proof.Machine.execLineLost k s
  | .creditStall k => Sys2Proof.Machine.execCreditStall k s
  | .hello k frame => Sys2Proof.Machine.execHello k frame s
  | .frameReceived k frame => Sys2Proof.Machine.execFrameReceived k frame s
  | .credit k count => Sys2Proof.Machine.execCredit k count s
  | .cmdOffered l => Sys2Proof.Machine.execCmdOffered l s
  | .cmd => Sys2Proof.Machine.execCmd s
  | .abort l => Sys2Proof.Machine.execAbort l s
  | .take l => Sys2Proof.Machine.execTake l s
  | .renew l => Sys2Proof.Machine.execRenew l s
  | .drop l => Sys2Proof.Machine.execDrop l s
  | .readIdent l => Sys2Proof.Machine.execReadIdent l s
  | .readEntry l => Sys2Proof.Machine.execReadEntry l s
  | .readSlot l => Sys2Proof.Machine.execReadSlot l s
  | .readExchange l => Sys2Proof.Machine.execReadExchange l s
  | .readStore l => Sys2Proof.Machine.execReadStore l s
  | .writeEntry l => Sys2Proof.Machine.execWriteEntry l s
  | .revert l => Sys2Proof.Machine.execRevert l s
  | .activate l => Sys2Proof.Machine.execActivate l s
  | .noticeAck l => Sys2Proof.Machine.execNoticeAck l s
  | .slotClear l => Sys2Proof.Machine.execSlotClear l s
  | .slotReset l => Sys2Proof.Machine.execSlotReset l s
  | .relayRestart l => Sys2Proof.Machine.execRelayRestart l s
  | .mgmtUnknownRequest l => Sys2Proof.Machine.execMgmtUnknownRequest l s
  | .issue n => Sys2Proof.Machine.execIssue n s
  | .generalGrant => Sys2Proof.Machine.execGeneralGrant s
  | .reserveGrant l => Sys2Proof.Machine.execReserveGrant l s
  | .overtakingIssue n => Sys2Proof.Machine.execOvertakingIssue n s
  | .slotLinkSend n => Sys2Proof.Machine.execSlotLinkSend n s
  | .issueSent n => Sys2Proof.Machine.execIssueSent n s
  | .cancelSent n => Sys2Proof.Machine.execCancelSent n s
  | .keepSent n => Sys2Proof.Machine.execKeepSent n s
  | .creditSent k => Sys2Proof.Machine.execCreditSent k s
  | .park n => Sys2Proof.Machine.execPark n s
  | .done n => Sys2Proof.Machine.execDone n s
  | .fault n => Sys2Proof.Machine.execFault n s
  | .deadlineExpiry j => Sys2Proof.Machine.execDeadlineExpiry j s
  | .orphanExpiry n t => Sys2Proof.Machine.execOrphanExpiry n t s
  | .leaseExpiry n => Sys2Proof.Machine.execLeaseExpiry n s
  | .acknowledgeWindowExpiry n => Sys2Proof.Machine.execAcknowledgeWindowExpiry n s
  | .pulseEnd n => Sys2Proof.Machine.execPulseEnd n s
  | .controllerLinkSend l => Sys2Proof.Machine.execControllerLinkSend l s
  | .replySent l => Sys2Proof.Machine.execReplySent l s
  | .noticeSent l => Sys2Proof.Machine.execNoticeSent l s
  | .respSent l => Sys2Proof.Machine.execRespSent l s

end Sys2Proof.Machine
end

