-- ==== Sys2Proof/Safety.lean ====
section
/-! DEFINITION. What counts as a safe run, and the words the statements use: when a link takes a frame, what the
end of an event leaves alone, and the invariants of the part. -/

namespace Sys2Proof

open Machine

/-- The outcome is a next state. -/
def runsOn (o : Host.Outcome State Fault Refusal) : Bool :=
  match o with
  | .next _ => true
  | .fault _ | .refused _ => false

/-- The first k steps from s all give next states. -/
def safeFor (k : Nat) (s : State) : Bool := runsOn (core.run k s)

end Sys2Proof

namespace Sys2Proof.Machine

open Sys2Proof

/-! ## Conditions -/

/-- Controller Link l can take a frame, and f is the oldest of its receive buffer (R173). -/
abbrev State.takes (s : State) (l : CtrlIx) (f : RxFrame) : Prop :=
  (s.ctrl l).link.state = .up ∧ (s.ctrl l).replyQ.length < 8 ∧ (s.ctrl l).offered = none
    ∧ s.ctrlWaits l = false ∧ s.departing l = false ∧ (s.ctrl l).link.buffer.head? = some f

/-- Slot Link n can take a frame, and f is the oldest of its receive buffer (R174). -/
abbrev State.slotTakes (s : State) (n : SlotIx) (f : RxFrame) : Prop :=
  (s.slot n).link.state = .up ∧ s.slotWaits n = false ∧ (s.slot n).link.buffer.head? = some f

/-- An expiry at e can be taken now: no other timer is left more than its slack behind (Table 11.2, log 4). -/
abbrev State.canExpire (s : State) (e : Nat) : Prop := s.mayPassTo (max s.now e) = true

/-! ## What stays -/

/-- A link but for its credit stall timer. -/
def LinkBlock.still (b : LinkBlock) : LinkBlock := { b with stall := none }

/-- The state but for the credit stall timers, which R172 moves at the end of every event. -/
def State.still (s : State) : State :=
  { s with
    ctrls := Vector.ofFn fun l => (s.ctrl l).onLink LinkBlock.still
    slots := Vector.ofFn fun n => (s.slot n).onLink LinkBlock.still }

/-- Configuration banks, epoch, admission counter and rotation pointer. -/
def State.tables (s : State) : Bank × Bank × BitVec 16 × BitVec 32 × CtrlIx :=
  (s.staged, s.active, s.epoch, s.admissionCounter, s.rotation)

/-- The exchange y is x, or x after its release from HELD (R80). -/
def Exchange.sameOrReleased (x y : Exchange) : Prop :=
  y = x ∨ ∃ r, x.phase = .held r ∧ y = { x with phase := .released r }

/-! ## Invariants -/

/-- A link keeps its bounds: its buffer within its places (R167), its credits within the announced size (R170),
a running line-loss timer only on an unlocked line of a link that is not DOWN (R168), and out of UP no frame, no
credit and nothing being sent (R167, R168). -/
def LinkBlock.inBounds (places : Nat) (b : LinkBlock) : Bool :=
  decide (b.buffer.length ≤ places) && decide (b.held ≤ b.announced)
    && (b.lineTimer.isNone || (!b.locked && b.state != .down))
    && (b.state == .up || (b.buffer.isEmpty && b.held == 0 && b.owed == 0 && b.sending.isNone))

/-- Every link is within its bounds, its stall timer runs exactly under the condition of R172, and no Notice Queue
holds more than 16 notices (R162). -/
abbrev State.linksOk (s : State) : Prop :=
  (∀ l : CtrlIx, (s.ctrl l).link.inBounds 8 = true ∧ (s.ctrl l).noticeQ.length ≤ 16
    ∧ (s.ctrl l).link.stall.isSome = (s.ctrl l).link.stalls (s.ctrl l).frameWaits (s.departing l))
  ∧ ∀ n : SlotIx, (s.slot n).link.inBounds 4 = true
    ∧ (s.slot n).link.stall.isSome = (s.slot n).link.stalls (s.slot n).frameWaits false

/-- Every field of a bank is within its range (R142). -/
abbrev Bank.inRange (b : Bank) : Prop :=
  (∀ n : SlotIx, b.slotTable[n].inRange = true) ∧ (∀ l : CtrlIx, b.control[l].inRange = true)
    ∧ b.params.inRange = true

/-- Both banks are within range and the active one names one manager (R142, R150). -/
abbrev State.tablesOk (s : State) : Prop :=
  s.staged.inRange ∧ s.active.inRange ∧ s.active.managers.length = 1

/-- The controller link and tag of the live exchange at an index. -/
def State.tagAt (s : State) (i : XtIx) : Option (CtrlIx × Byte) :=
  (s.exchange i).map fun x => (x.id.link, x.id.tag)

/-- No two live entries have the same controller link and controller tag (R10). -/
abbrev State.tagsOk (s : State) : Prop :=
  ∀ i j : XtIx, (s.tagAt i).isSome → s.tagAt i = s.tagAt j → i = j

/-- The exchange at an index satisfies p. -/
def State.exchangeIs (s : State) (i : XtIx) (p : Exchange → Bool) : Bool :=
  match s.exchange i with
  | some x => p x
  | none => false

/-- The exchange is RELEASED. -/
def Exchange.isReleased (x : Exchange) : Bool := x.isEnded && !x.isHeld

/-- The admission order lists the live entries, each once (R14). -/
abbrev State.admissionOk (s : State) : Prop :=
  s.admissionOrder.Nodup ∧ ∀ i : XtIx, i ∈ s.admissionOrder ↔ (s.exchange i).isSome = true

/-- Each Slot Queue holds the slot's QUEUED exchanges in admission order (R41). -/
abbrev State.queuesOk (s : State) : Prop :=
  ∀ n : SlotIx, (s.slot n).queue.Sublist s.admissionOrder
    ∧ ∀ i : XtIx, i ∈ (s.slot n).queue ↔ s.exchangeIs i (fun x => x.id.slot == n && x.isQueued) = true

/-- Each Order List holds the link's ordered exchanges not yet released, in admission order (R77), its head not
HELD (R78), and each Release Queue holds the link's RELEASED entries, each once (R83). -/
abbrev State.ordersOk (s : State) : Prop :=
  ∀ l : CtrlIx, (s.ctrl l).orderList.Sublist s.admissionOrder
    ∧ (∀ i : XtIx, i ∈ (s.ctrl l).orderList
        ↔ s.exchangeIs i (fun x => x.id.link == l && x.id.ordered && !x.isReleased) = true)
    ∧ (∀ i ∈ (s.ctrl l).orderList.head?, s.isHeldAt i = false)
    ∧ (s.ctrl l).releaseQ.Nodup
    ∧ ∀ i : XtIx, i ∈ (s.ctrl l).releaseQ ↔ s.exchangeIs i (fun x => x.id.link == l && x.isReleased) = true

/-- The admission order, the Slot Queues, the Order Lists and the Release Queues hold what they should. -/
abbrev State.collectionsOk (s : State) : Prop := s.admissionOk ∧ s.queuesOk ∧ s.ordersOk

/-- R84: on each link the ordered exchanges released and not yet sent, and behind them those of the Order List, stand
in admission order. -/
abbrev State.orderLawOk (s : State) : Prop :=
  ∀ l : CtrlIx, ((s.ctrl l).releaseQ.filter (fun i => s.exchangeIs i fun x => x.id.ordered)
    ++ (s.ctrl l).orderList).Sublist s.admissionOrder

/-- A reservation record: no link waits twice, its holder does not wait, and without a holder nobody waits (R109). -/
def Reservation.ok (r : Reservation) : Bool :=
  decide r.waiting.Nodup && (match r.holder with
    | some h => !r.waiting.contains h
    | none => r.waiting.isEmpty && r.lease.isNone)

/-- Every reservation record is in order (R109), and a reserved slot has no QUEUED ACTION of a link other than
the holder (R110). -/
abbrev State.reservationsOk (s : State) : Prop :=
  (∀ n : SlotIx, (s.slot n).resv.ok = true)
  ∧ ∀ i : XtIx, s.exchangeIs i (fun x => x.isQueued && x.id.cls == .action && s.heldByOther x.id.link x.id.slot) = false

/-- A slot that is not ONLINE has no exchange in QUEUED, ACTIVE, PARKED or CANCELLING and no orphan (R127). -/
abbrev State.outOfServiceOk (s : State) : Prop :=
  ∀ n : SlotIx, (s.slot n).state ≠ .online → (s.slot n).orphans = []
    ∧ ∀ i : XtIx, s.exchangeIs i (fun x => x.id.slot == n && !x.isEnded) = false

/-- How many orphans of the whole relay have an index. -/
def State.orphansAt (s : State) (i : XtIx) : Nat :=
  ((List.finRange 8).flatMap fun n => (s.slot n).orphans).countP fun o => o.tag.index == i

/-- No two orphans of the relay share an index, and none has the index of an exchange that has not ended
(R102, R12, R13). -/
abbrev State.orphansOk (s : State) : Prop :=
  ∀ i : XtIx, s.orphansAt i + (if s.exchangeIs i (fun x => !x.isEnded) = true then 1 else 0) ≤ 1

/-- Every slot has at most 8 window positions and 16 parked positions in use (R43, R44). -/
abbrev State.positionsOk (s : State) : Prop :=
  ∀ n : SlotIx, s.windowCount n ≤ 8 ∧ s.parkedCount n ≤ 16

/-- The command blocks that an entry holds (R66). -/
def Entry.cmdBlocks (e : Entry) : Nat :=
  match e.live with
  | some x =>
    match x.cmdSpace with
    | some c => c.blocks
    | none => 0
  | none => 0

/-- The response blocks that an entry holds of a pool, link l's reserve or (none) the general pool (R68). -/
def Entry.respBlocks (l : Option CtrlIx) (e : Entry) : Nat :=
  match e.live with
  | some x =>
    match x.respSpace with
    | some r =>
      match l, r.pool with
      | none, .general => r.blocks
      | some l, .reserve => if x.id.link = l then r.blocks else 0
      | _, _ => 0
    | none => 0
  | none => 0

/-- An exchange asks for 256 bytes at most, and while it is issued and not ended its reservation is its need
(R30, R69). -/
def Exchange.spaceOk (x : Exchange) : Bool :=
  decide (x.id.maxResp ≤ 256) && (match x.phase with
    | .active _ r _ | .parked r _ | .cancelling r _ _ => r.blocks == x.need
    | .queued _ | .held _ | .released _ => true)

/-- Free and held blocks of the Command Store. -/
def State.cmdTotal (s : State) : Nat := s.cmdFree + (s.entries.toList.map Entry.cmdBlocks).sum

/-- Free and held blocks of the general pool. -/
def State.generalTotal (s : State) : Nat := s.generalFree + (s.entries.toList.map (Entry.respBlocks none)).sum

/-- Free and held blocks of a link's reserve. -/
def State.reserveTotal (s : State) (l : CtrlIx) : Nat :=
  s.reserve l + (s.entries.toList.map (Entry.respBlocks (some l))).sum

/-- The free blocks of each pool and the blocks that entries hold of it total the pool (R66, R68), and at most one
entry holds blocks of a link's reserve (R68). -/
abbrev State.storesOk (s : State) : Prop :=
  s.cmdTotal = 128 ∧ s.generalTotal = 112 ∧ (∀ l : CtrlIx, s.reserveTotal l = 4)
  ∧ (∀ (l : CtrlIx) (i j : XtIx), 0 < (s.entry i).respBlocks (some l) → 0 < (s.entry j).respBlocks (some l) → i = j)
  ∧ ∀ i : XtIx, s.exchangeIs i (fun x => !x.spaceOk) = false

/-- No block is lost or made between two states. -/
abbrev State.sameTotals (s t : State) : Prop :=
  t.cmdTotal = s.cmdTotal ∧ t.generalTotal = s.generalTotal ∧ ∀ l, t.reserveTotal l = s.reserveTotal l

/-! ## What a link loss or a RELAY_RESTART leaves at a slot (Tables 6.4 and 6.5) -/

/-- The slot side of a state: the position an orphan takes over, and whether a CANCEL is appended. -/
def Phase.slotSide : Phase → Option (Position × Bool)
  | .active none _ _ => some (.active, true)
  | .parked _ _ => some (.parked, true)
  | .cancelling _ _ former => some (former, false)
  | .queued _ | .active (some _) _ _ | .held _ | .released _ => none

/-- The live exchanges of slot n that satisfy p and leave a slot side, in admission order. -/
def State.abandoned (s : State) (n : SlotIx) (p : Exchange → Bool) : List (RelayTag × Position × Bool) :=
  s.admissionOrder.filterMap fun i =>
    match s.exchange i with
    | some x => if x.id.slot = n ∧ p x then x.phase.slotSide.map fun e => (s.relayTag i, e) else none
    | none => none

/-- The orphans made of them (R105, R107). -/
def State.orphansMade (s : State) (n : SlotIx) (p : Exchange → Bool) : List Orphan :=
  (s.abandoned n p).map fun e => ⟨e.1, e.2.1, s.now + s.active.params.orphanDeadline * 5000000⟩

/-- The CANCELs appended for them (R96). -/
def State.cancelsMade (s : State) (n : SlotIx) (p : Exchange → Bool) : List SlotFrame :=
  (s.abandoned n p).filterMap fun e => if e.2.2 then some (.cancel e.1) else none

end Sys2Proof.Machine
end

