-- ==== Sys2Proof/Certificates/Slice0/Obligations.lean ====
section
/-! DEFINITION. The statements for the provers. A statement that a command is answered with `.next u.settle` says
the whole next state: u, and then the credit stall timers as `Obligations.EventEndMovesStallTimersOnly` says. -/

open Sys2Proof Sys2Proof.Machine

/-! ## The step -/

/-- A step takes the command at the front of the queue and is its meaning on the state with the queue's rest. -/
def Obligations.StepTakesTheFrontCommand : Prop :=
  ∀ (c : Instr) (rest : List Instr) (s : Machine.State),
    s.pending = c :: rest → step s = exec c { s with pending := rest }

/-- On an empty queue one REFCLK cycle passes, or the first overdue timer expires (the model's choice, logs 1
and 20). -/
def Obligations.IdleStepPassesTime : Prop :=
  ∀ s : Machine.State, s.pending = [] →
    ((∀ e ∈ s.timers, s.now < e.1 + 50000) → step s = .next (s.atTime (s.now + 1)))
    ∧ ∀ e, s.timers.find? (fun e => decide (e.1 + 50000 ≤ s.now)) = some e → step s = exec e.2 s

/-- No command stops the part in any state: it answers a next state, also where its event cannot happen. (Model's
choice: log 3.) -/
def Obligations.EveryCommandGoesOn : Prop :=
  ∀ (c : Instr) (s : Machine.State), ∃ t, exec c s = .next t

/-- HARDWARE_RESET leaves every block in its reset state, the strapped link the manager; the queue of commands is
kept. The fields `now`, `txLine`, `locked`, `announced` and `lineTimer` are the model's choices (logs 1, 5, 14, 16). -/
def Obligations.HardwareResetLeavesResetValues : Prop :=
  ∀ (strap : CtrlIx) (s : Machine.State), ∃ t, exec (.hardwareReset strap) s = .next t
    ∧ t.pending = s.pending ∧ t.now = 0
    ∧ (∀ i, t.entry i = { gen := 0, live := none }) ∧ t.admissionOrder = [] ∧ t.admissionCounter = 0
    ∧ t.rotation = 3 ∧ t.cmdFree = 128 ∧ t.generalFree = 112 ∧ (∀ l, t.reserve l = 4)
    ∧ t.epoch = 0 ∧ t.noticeId = 0 ∧ t.waiting = []
    ∧ (∀ l, (t.ctrl l).link = LinkBlock.reset ∧ (t.ctrl l).replyQ = [] ∧ (t.ctrl l).noticeQ = []
        ∧ (t.ctrl l).lost = false ∧ (t.ctrl l).releaseQ = [] ∧ (t.ctrl l).orderList = []
        ∧ (t.ctrl l).offered = none)
    ∧ (∀ n, (t.slot n).link = LinkBlock.reset ∧ (t.slot n).queue = [] ∧ (t.slot n).sendQ = []
        ∧ (t.slot n).orphans = [] ∧ (t.slot n).resv = ⟨none, none, []⟩ ∧ (t.slot n).state = .offline
        ∧ (t.slot n).lastFault = .none ∧ t.slotResetLow n = false)
    ∧ LinkBlock.reset.state = .down ∧ LinkBlock.reset.buffer = [] ∧ LinkBlock.reset.held = 0
    ∧ LinkBlock.reset.owed = 0 ∧ LinkBlock.reset.stall = none ∧ LinkBlock.reset.sending = none
    ∧ t.staged = t.active
    ∧ (∀ n, t.slotConfig n = ⟨true, 1, 4, 16, 100, 50, 0⟩) ∧ (∀ l n, t.access l n = .full)
    ∧ (∀ l, t.ctrlConfig l = ⟨16, decide (l = strap)⟩) ∧ t.active.params = ⟨5, 10⟩

/-- The end of an event moves nothing but the stall timers, and each runs after it exactly while its link is UP,
is not departing, has a frame waiting and no credit it may use; it starts with 100 ms and goes on if it ran.
(Model's choices: log 10.) -/
def Obligations.EventEndMovesStallTimersOnly : Prop :=
  ∀ s : Machine.State, s.settle.still = s.still
    ∧ (∀ l, (s.settle.ctrl l).link.stall =
        if (s.ctrl l).link.state = .up ∧ s.departing l = false ∧ (s.ctrl l).frameWaits = true
            ∧ ((s.ctrl l).link.held = 0
              ∨ (s.ctrl l).link.held = 1 ∧ (s.ctrl l).link.owed = 0 ∧ (s.ctrl l).link.announced ≠ 1)
        then some ((s.ctrl l).link.stall.getD (s.now + 5000000)) else none)
    ∧ ∀ n, (s.settle.slot n).link.stall =
        if (s.slot n).link.state = .up ∧ (s.slot n).frameWaits = true
            ∧ ((s.slot n).link.held = 0
              ∨ (s.slot n).link.held = 1 ∧ (s.slot n).link.owed = 0 ∧ (s.slot n).link.announced ≠ 1)
        then some ((s.slot n).link.stall.getD (s.now + 5000000)) else none

/-! ## Lines and links -/

/-- LINE_LOCK stops the line-loss timer, and a DOWN link sends its HELLO and enters WAIT_HELLO. LINE_UNLOCK starts
the 1 ms line-loss timer of a link that is not DOWN. A line that is locked already, or not locked, does neither.
(Model's choices: logs 3 and 5.) -/
def Obligations.LineLockAndUnlock : Prop :=
  ∀ (k : LinkId) (s : Machine.State),
    ((s.link k).locked = false → exec (.lineLock k) s = .next (s.onLink k fun b =>
        if b.state = .down then
          { b with locked := true, lineTimer := none, state := .waitHello, txLine := helloBytes (bufferPlaces k) }
        else { b with locked := true, lineTimer := none }).settle)
    ∧ ((s.link k).locked = true → exec (.lineLock k) s = .next s)
    ∧ ((s.link k).locked = true → exec (.lineUnlock k) s = .next (s.onLink k fun b =>
        { b with locked := false, lineTimer := if b.state = .down then none else some (s.now + 50000) }).settle)
    ∧ ((s.link k).locked = false → exec (.lineUnlock k) s = .next s)

/-- A line lost in WAIT_HELLO makes the link DOWN, with no notice and no fault. Without a running line-loss timer,
or while another timer is overdue, LINE_LOST does nothing. (Model's choices: logs 3 and 4.) -/
def Obligations.LineLostInWaitHelloMakesTheLinkDown : Prop :=
  ∀ (k : LinkId) (s : Machine.State),
    (∀ e, (s.link k).lineTimer = some e → s.canExpire e → (s.link k).state = .waitHello →
      exec (.lineLost k) s = .next ((s.atTime (max s.now e)).onLink k fun b =>
        { b with lineTimer := none, state := .down }).settle)
    ∧ (∀ e, (s.link k).lineTimer = some e → ¬ s.canExpire e → exec (.lineLost k) s = .next s)
    ∧ ((s.link k).lineTimer = none → exec (.lineLost k) s = .next s)

/-- A Slot Link leaves UP for each of its four causes: its buffer, credits and frame are gone, its Slot Send Queue
is empty, its slot takes the cause LINK_LOST, and then the causes that waited for its lost ISSUE are taken.
(Model's choices: logs 4, 5 and 12.) -/
def Obligations.SlotLinkLeavesUp : Prop :=
  ∀ (n : SlotIx) (s : Machine.State), (s.slot n).link.state = .up →
    let gone (b : LinkBlock) : LinkBlock :=
      { b with buffer := [], held := 0, owedCredit := 0, owedOther := 0, stall := none, sending := none }
    let reread (s : Machine.State) (b : LinkBlock) : Option Nat :=
      if b.locked then b.lineTimer else some (b.lineTimer.getD (s.now + 50000))
    let fresh (s : Machine.State) (b : LinkBlock) : LinkBlock :=
      { gone b with state := .waitHello, txLine := helloBytes 4, lineTimer := reread s b }
    (∀ e, (s.slot n).link.lineTimer = some e → s.canExpire e → (s.slot n).link.locked = false →
      exec (.lineLost (.slot n)) s = .next ((((s.atTime (max s.now e)).onSlot n fun b =>
        { b with link := { gone b.link with state := .down, lineTimer := none }, sendQ := [] }).faultSlot n
          .linkLost).resolveWaiting).settle)
    ∧ (∀ e, (s.slot n).link.stall = some e → s.canExpire e →
      exec (.creditStall (.slot n)) s = .next ((((s.atTime (max s.now e)).onSlot n fun b =>
        { b with link := fresh (s.atTime (max s.now e)) b.link, sendQ := [] }).faultSlot n
          .linkLost).resolveWaiting).settle)
    ∧ (∀ frame, frame.head? ≠ some helloKind → 4 ≤ (s.slot n).link.buffer.length →
      exec (.frameReceived (.slot n) frame) s = .next (((s.onSlot n fun b =>
        { b with link := fresh s b.link, sendQ := [] }).faultSlot n .linkLost).resolveWaiting).settle)
    ∧ ∀ frame size, frame.head? = some helloKind → helloSize (.slot n) frame = some size →
      exec (.hello (.slot n) frame) s = .next ((((s.onSlot n fun b =>
        { b with
          link := { fresh s b.link with state := .up, held := size, announced := size }
          sendQ := [] }).faultSlot n .linkLost).slotLinkUp n).resolveWaiting).settle

/-- A cause that makes a Controller Link leave UP is taken at once, or waits while an ISSUE of the link is in
transit; one that comes while a departure waits is discarded, and so is every frame and HELLO. (Model's choices:
logs 4, 11 and 30.) -/
def Obligations.ControllerLinkLeavesUpOrWaits : Prop :=
  ∀ (l : CtrlIx) (s : Machine.State), (s.ctrl l).link.state = .up →
    let leaves (s : Machine.State) (cause : DepartCause) : Machine.State :=
      if s.departing l then s
      else if s.transitReached (.departure l cause) then s.withWaiting (s.waiting ++ [.departure l cause])
      else s.departCtrl l cause
    (∀ e, (s.ctrl l).link.lineTimer = some e → s.canExpire e →
      exec (.lineLost (.ctrl l)) s = .next (leaves ((s.atTime (max s.now e)).onLink (.ctrl l) fun b =>
        { b with lineTimer := none }) .lineLost).settle)
    ∧ (∀ e, (s.ctrl l).link.stall = some e → s.canExpire e →
      exec (.creditStall (.ctrl l)) s = .next (leaves ((s.atTime (max s.now e)).onLink (.ctrl l) fun b =>
        { b with stall := none }) .creditStall).settle)
    ∧ (∀ frame, frame.head? ≠ some helloKind → s.departing l = false → 8 ≤ (s.ctrl l).link.buffer.length →
      exec (.frameReceived (.ctrl l) frame) s = .next (leaves s .creditViolation).settle)
    ∧ (∀ frame size, frame.head? = some helloKind → helloSize (.ctrl l) frame = some size → s.departing l = false →
      exec (.hello (.ctrl l) frame) s = .next (leaves s (.partnerRestart size)).settle)
    ∧ (s.departing l = true → ∀ frame,
      exec (.hello (.ctrl l) frame) s = .next s ∧ exec (.frameReceived (.ctrl l) frame) s = .next s)

/-- A departed Controller Link has no live entry, no queue, no offer and no place in a reservation record. Its issued
entries leave orphans and CANCELs in admission order (Table 6.4), its blocks return, entries of other links keep their
identity. LINK_DOWN is in the manager's Notice Queue or lost; LINK_UP follows a partner restart.
(Model's choices: logs 8 and 12.) -/
def Obligations.DepartedControllerLinkLeavesNothing : Prop :=
  ∀ (l : CtrlIx) (cause : DepartCause) (s : Machine.State), s.admissionOk →
    let t := s.departCtrl l cause
    let own (x : Exchange) : Bool := x.id.link == l
    let note (id : Byte) (kind : NoticeKind) (c : NoticeCause) : Notice := ⟨id, kind, BitVec.ofNat 8 l.val, c, []⟩
    let word : NoticeCause := match cause with
      | .lineLost => .lineLost
      | .creditViolation => .creditViolation
      | .creditStall => .creditStall
      | .partnerRestart _ => .partnerRestart
    let back : Bool := match cause with
      | .partnerRestart _ => true
      | _ => false
    (∀ i x, t.exchange i = some x → x.id.link ≠ l)
    ∧ (∀ i x, s.exchange i = some x → x.id.link = l → t.exchange i = none ∧ (t.entry i).gen = (s.entry i).gen + 1)
    ∧ (∀ i x, s.exchange i = some x → x.id.link ≠ l →
        ∃ y, t.exchange i = some y ∧ y.id = x.id ∧ (t.entry i).gen = (s.entry i).gen)
    ∧ (∀ i, s.exchange i = none → t.entry i = s.entry i)
    ∧ (t.ctrl l).orderList = [] ∧ (t.ctrl l).releaseQ = [] ∧ (t.ctrl l).replyQ = [] ∧ (t.ctrl l).offered = none
    ∧ (t.ctrl l).link.buffer = [] ∧ (t.ctrl l).link.owed = 0 ∧ (t.ctrl l).link.sending = none
    ∧ (s.isManager l = false → (t.ctrl l).noticeQ = [])
    ∧ (t.ctrl l).lost = ((s.ctrl l).lost || !(s.ctrl l).noticeQ.isEmpty)
    ∧ (match cause with
      | .lineLost => (t.ctrl l).link.held = 0
          ∧ (t.ctrl l).link.state = if (s.ctrl l).link.locked then .waitHello else .down
      | .creditViolation | .creditStall => (t.ctrl l).link.held = 0 ∧ (t.ctrl l).link.state = .waitHello
      | .partnerRestart size => (t.ctrl l).link.held = size ∧ (t.ctrl l).link.state = .up)
    ∧ (∀ n, (t.slot n).resv.holder ≠ some l)
    ∧ (∀ n, l ∉ (t.slot n).resv.waiting)
    ∧ (∀ m, s.manager = some m →
        let id : Byte := t.noticeId - if back then 2 else 1
        let lostAt : Prop := (t.ctrl m).lost = true ∧ 16 ≤ (t.ctrl m).noticeQ.length
        (m = l → (t.ctrl l).noticeQ = note id .linkDown word :: if back then [note (id + 1) .linkUp .none] else [])
        ∧ (note id .linkDown word ∈ (t.ctrl m).noticeQ ∨ lostAt)
        ∧ (back = true → note (id + 1) .linkUp .none ∈ (t.ctrl m).noticeQ ∨ lostAt))
    ∧ (∀ n, (t.slot n).orphans = (s.slot n).orphans ++ s.orphansMade n own
        ∧ (s.cancelsMade n own).Sublist (t.slot n).sendQ
        ∧ (t.slot n).state = (s.slot n).state ∧ (t.slot n).lastFault = (s.slot n).lastFault
        ∧ (t.slot n).link = (s.slot n).link)
    ∧ (∀ i x, s.exchange i = some x → x.id.link = l →
        i ∉ (t.slot x.id.slot).queue
        ∧ (SlotFrame.cancel (s.relayTag i) ∈ (s.slot x.id.slot).sendQ →
          SlotFrame.cancel (s.relayTag i) ∈ (t.slot x.id.slot).sendQ)
        ∧ ((s.slot x.id.slot).link.sending = none → SlotFrame.issue (s.relayTag i) ∉ (t.slot x.id.slot).sendQ
          ∧ SlotFrame.keep (s.relayTag i) ∉ (t.slot x.id.slot).sendQ))
    ∧ s.sameTotals t
    ∧ (∀ l', l' ≠ l → (t.ctrl l').link = (s.ctrl l').link ∧ (t.ctrl l').replyQ = (s.ctrl l').replyQ
        ∧ (t.ctrl l').offered = (s.ctrl l').offered)
    ∧ t.tables = s.tables ∧ t.now = s.now ∧ t.pending = s.pending

/-- A HELLO with the right role and a size of 1 to 16 brings a link from WAIT_HELLO to UP with that many credits:
a controller link with LINK_UP, an OFFLINE slot to ONLINE with SLOT_ONLINE. Every other HELLO is discarded.
(Model's choices: logs 3, 7, 19 and 30.) -/
def Obligations.HelloBringsALinkUp : Prop :=
  ∀ (frame : List Byte) (s : Machine.State), frame.head? = some helloKind →
    let up (size : Nat) (b : LinkBlock) : LinkBlock :=
      { b with state := .up, held := size, announced := size, owedCredit := 0, owedOther := 0 }
    (∀ l size, helloSize (.ctrl l) frame = some size → (s.ctrl l).link.state = .waitHello →
      exec (.hello (.ctrl l) frame) s = .next ((s.onCtrl l fun b => { b with link := up size b.link }).notifyManager
        .linkUp (ctrlByte l) .none []).settle)
    ∧ (∀ n size, helloSize (.slot n) frame = some size → (s.slot n).link.state = .waitHello →
      (s.slot n).state = .offline →
      exec (.hello (.slot n) frame) s = .next ((s.onSlot n fun b =>
        { b with link := up size b.link, state := .online }).notifyManager .slotOnline (slotByte n) .none []).settle)
    ∧ (∀ n size, helloSize (.slot n) frame = some size → (s.slot n).link.state = .waitHello →
      (s.slot n).state ≠ .offline →
      exec (.hello (.slot n) frame) s = .next (s.onSlot n fun b => { b with link := up size b.link }).settle)
    ∧ (∀ k, helloSize k frame = none → exec (.hello k frame) s = .next s)
    ∧ ∀ k, (s.link k).state = .down → exec (.hello k frame) s = .next s

/-- A frame other than HELLO that arrives in UP and finds a place: with a bad CRC or a count above 16 it is
discarded and a credit owed; malformed it is discarded with its count added; a CREDIT does its work; any other
stays in the buffer. Out of UP it is discarded. (Model's choices: logs 6, 19, 25 and 30.) -/
def Obligations.ArrivingFrameTakesAPlace : Prop :=
  ∀ (k : LinkId) (s : Machine.State) (frame : List Byte), frame.head? ≠ some helloKind →
    let add (b : LinkBlock) (count : Nat) : Nat := min (b.held + count) b.announced
    let room := (s.link k).state = .up ∧ s.linkDeparting k = false ∧ (s.link k).buffer.length < bufferPlaces k
    (room → checkFrame k frame = .corrupt → exec (.frameReceived k frame) s =
      .next (s.onLink k fun b => { b with owedOther := b.owedOther + 1 }).settle)
    ∧ (∀ count, room → checkFrame k frame = .discarded count → exec (.frameReceived k frame) s =
      .next (s.onLink k fun b => { b with held := add b count, owedOther := b.owedOther + 1 }).settle)
    ∧ (∀ count, room → checkFrame k frame = .credit count → exec (.frameReceived k frame) s =
      .next (s.onLink k fun b => { b with held := add b count, owedCredit := b.owedCredit + 1 }).settle)
    ∧ (∀ count f, room → checkFrame k frame = .kept count f → exec (.frameReceived k frame) s =
      .next (s.onLink k fun b => { b with held := add b count, buffer := b.buffer ++ [f] }).settle)
    ∧ (∀ count : Byte, room → count.toNat ≤ 16 → exec (.credit k count) s =
      .next (s.onLink k fun b => { b with held := add b count.toNat, owedCredit := b.owedCredit + 1 }).settle)
    ∧ (∀ count : Byte, room → 16 < count.toNat → exec (.credit k count) s =
      .next (s.onLink k fun b => { b with owedOther := b.owedOther + 1 }).settle)
    ∧ ((s.link k).state ≠ .up ∨ s.linkDeparting k = true →
      exec (.frameReceived k frame) s = .next s ∧ ∀ count, exec (.credit k count) s = .next s)

/-- Each frame that a link keeps is read from its bytes as Table 12.1 lays it out, with the count of its header; a
HELLO gives its size; a CREDIT frame of its bytes is the command CREDIT. A kind that a link does not take (Table 11.1),
and a body with a wrong length or code, is discarded with its count added; a bad CRC or a count above 16 without it.
(Model's choices: logs 6 and 7.) -/
def Obligations.FramesAreReadAsLaidOut : Prop :=
  ∀ (l : CtrlIx) (n : SlotIx) (count : Nat), count ≤ 16 →
    (∀ (tag slotAddr : Byte) (ordered : Bool) (cls : CmdClass) (maxResp : Nat) (payload : List Byte),
      maxResp < 65536 → payload.length < 65528 →
      checkFrame (.ctrl l) (frameBytes 0x10 count (tag :: slotAddr :: cls.byte :: boolByte ordered
        :: (be16 maxResp ++ be16 payload.length ++ payload)))
        = .kept count (.cmd { tag, slotAddr, cls, ordered, maxResp, payload }))
    ∧ (∀ tag, checkFrame (.ctrl l) (frameBytes 0x11 count [tag]) = .kept count (.abort tag))
    ∧ (∀ tag a, checkFrame (.ctrl l) (frameBytes 0x12 count [tag, 1, a]) = .kept count (.resv tag .take a)
      ∧ checkFrame (.ctrl l) (frameBytes 0x12 count [tag, 2, a]) = .kept count (.resv tag .renew a)
      ∧ checkFrame (.ctrl l) (frameBytes 0x12 count [tag, 3, a]) = .kept count (.resv tag .drop a))
    ∧ (∀ tag code args, args.length < 65534 →
      checkFrame (.ctrl l) (frameBytes 0x13 count (tag :: code :: args)) = .kept count (.mgmt tag code args))
    ∧ (∀ (t : RelayTag) (outcome : DoneOutcome) (status : Byte) (payload : List Byte), payload.length ≤ 256 →
      checkFrame (.slot n) (frameBytes 0x40 count (byteOfTag t :: outcome.byte :: status
        :: (be16 payload.length ++ payload))) = .kept count (.done { tag := t, outcome, status, payload }))
    ∧ (∀ t, checkFrame (.slot n) (frameBytes 0x41 count [byteOfTag t]) = .kept count (.park t))
    ∧ (∀ code, checkFrame (.slot n) (frameBytes 0x42 count [code]) = .kept count (.fault code))
    ∧ (∀ (k : LinkId) (s : Machine.State),
        exec (.frameReceived k (frameBytes 0x02 count [])) s = exec (.credit k (BitVec.ofNat 8 count)) s)
    ∧ (∀ (size p1 p0 rev : Byte), 1 ≤ size.toNat → size.toNat ≤ 16 →
      helloSize (.ctrl l) (frameBytes 0x01 count [1, size, p1, p0, rev]) = some size.toNat
      ∧ helloSize (.slot n) (frameBytes 0x01 count [2, size, p1, p0, rev]) = some size.toNat)
    ∧ (∀ (role size p1 p0 rev : Byte) (c : Nat), c < 256 → 16 < c ∨ size.toNat = 0 ∨ 16 < size.toNat →
      ∀ k, helloSize k (frameBytes 0x01 c [role, size, p1, p0, rev]) = none)
    ∧ (∀ (role size p1 p0 rev : Byte),
      (role ≠ 1 → helloSize (.ctrl l) (frameBytes 0x01 count [role, size, p1, p0, rev]) = none)
      ∧ (role ≠ 2 → helloSize (.slot n) (frameBytes 0x01 count [role, size, p1, p0, rev]) = none))
    ∧ (∀ (kind : Byte) (body : List Byte), body.length < 65536 →
      let cut (k : LinkId) : Prop := checkFrame k (frameBytes kind count body) = .discarded count
      (kind ∉ [0x02, 0x10, 0x11, 0x12, 0x13] → cut (.ctrl l))
      ∧ (kind ∉ [0x02, 0x40, 0x41, 0x42] → cut (.slot n))
      ∧ (kind = 0x02 → body ≠ [] → ∀ k, cut k)
      ∧ (kind = 0x10 → body.length < 8 → cut (.ctrl l)) ∧ (kind = 0x11 → body.length ≠ 1 → cut (.ctrl l))
      ∧ (kind = 0x12 → body.length ≠ 3 → cut (.ctrl l)) ∧ (kind = 0x13 → body.length < 2 → cut (.ctrl l))
      ∧ (kind = 0x40 → body.length < 5 → cut (.slot n))
      ∧ (kind = 0x41 ∨ kind = 0x42 → body.length ≠ 1 → cut (.slot n))
      ∧ (∀ tag a cls ord r1 r0 n1 n0 payload, kind = 0x10 →
          body = tag :: a :: cls :: ord :: r1 :: r0 :: n1 :: n0 :: payload →
          1 < cls.toNat ∨ 1 < ord.toNat ∨ payload.length ≠ n1.toNat * 256 + n0.toNat → cut (.ctrl l))
      ∧ (∀ tag rk a, kind = 0x12 → body = [tag, rk, a] → rk.toNat = 0 ∨ 3 < rk.toNat → cut (.ctrl l))
      ∧ ∀ tag o status n1 n0 payload, kind = 0x40 → body = tag :: o :: status :: n1 :: n0 :: payload →
          1 < o.toNat ∨ payload.length ≠ n1.toNat * 256 + n0.toNat ∨ 256 < payload.length → cut (.slot n))
    ∧ (∀ (k : LinkId) (kind : Byte) (c : Nat) (body : List Byte), body.length < 65536 → 16 < c → c < 256 →
      checkFrame k (frameBytes kind c body) = .corrupt)
    ∧ (∀ (k : LinkId) (rest : List Byte) (hi lo : Byte),
      [hi, lo] ≠ [BitVec.ofNat 8 ((crc16 rest).toNat / 256), BitVec.ofNat 8 (crc16 rest).toNat] →
      checkFrame k (rest ++ [hi, lo]) = .corrupt)
    ∧ ∀ (kind : Byte) (body : List Byte),
      let head := kind :: BitVec.ofNat 8 count :: BitVec.ofNat 8 (body.length / 256) :: BitVec.ofNat 8 body.length :: body
      frameBytes kind count body
        = head ++ [BitVec.ofNat 8 ((crc16 head).toNat / 256), BitVec.ofNat 8 (crc16 head).toNat]

/-- While a Controller Link may not take a frame (R173, and R168 while its departure waits), or a Slot Link (R174), or
its buffer is empty, no command that takes a frame changes anything. (Model's choices: logs 3 and 11.) -/
def Obligations.FramesStayWhileTheLinkMayNotTakeThem : Prop :=
  ∀ s : Machine.State,
    (∀ l, ((s.ctrl l).link.state ≠ .up ∨ 8 ≤ (s.ctrl l).replyQ.length ∨ (s.ctrl l).offered ≠ none
        ∨ s.ctrlWaits l = true ∨ s.departing l = true ∨ (s.ctrl l).link.buffer = []) →
      ∀ c ∈ [Instr.cmdOffered l, .abort l, .take l, .renew l, .drop l, .readIdent l, .readEntry l, .readSlot l,
        .readExchange l, .readStore l, .writeEntry l, .revert l, .activate l, .noticeAck l, .slotClear l, .slotReset l,
        .relayRestart l, .mgmtUnknownRequest l], exec c s = .next s)
    ∧ ∀ n, ((s.slot n).link.state ≠ .up ∨ s.slotWaits n = true ∨ (s.slot n).link.buffer = []) →
      ∀ c ∈ [Instr.park n, .done n, .fault n], exec c s = .next s

/-! ## Admission -/

/-- CMD_OFFERED: a link that can take a frame and whose oldest frame is a CMD takes it out of the buffer, owes one
credit for the place, and offers it. Otherwise nothing changes. (Model's choices: log 3.) -/
def Obligations.CmdOfferedTakesTheFrame : Prop :=
  ∀ (l : CtrlIx) (s : Machine.State),
    (∀ c, s.takes l (.cmd c) → exec (.cmdOffered l) s = .next (s.onCtrl l fun b =>
      { b with
        link := { b.link with buffer := b.link.buffer.tail, owedOther := b.link.owedOther + 1 }
        offered := some c }).settle)
    ∧ ((∀ c, ¬ s.takes l (.cmd c)) → exec (.cmdOffered l) s = .next s)

/-- The admission checks are those of Table 2.1 in its order, and without a failing check the index given is the
lowest that is FREE and not fenced. -/
def Obligations.AdmissionChecksInOrder : Prop :=
  ∀ (s : Machine.State) (l : CtrlIx) (c : CmdFrame),
    (256 < c.payload.length ∨ 256 < c.maxResp → s.admissionCheck l c = .error .badLength)
    ∧ (c.payload.length ≤ 256 → c.maxResp ≤ 256 → slotOfByte c.slotAddr = none →
        s.admissionCheck l c = .error .noSlot)
    ∧ ∀ n, c.payload.length ≤ 256 → c.maxResp ≤ 256 → slotOfByte c.slotAddr = some n →
      let checks : List (Bool × RelayCode) :=
        [(s.access l n == .none || (s.access l n == .query && c.cls == .action), .noAccess),
          (!(s.slotConfig n).enabled, .slotDisabled),
          ((s.slot n).state != .online, .slotUnavailable),
          (c.cls == .action && (s.slot n).resv.holder.isSome && (s.slot n).resv.holder != some l, .reserved),
          ((List.finRange 64).any fun i => s.tagAt i == some (l, c.tag), .tagInUse),
          (decide ((s.ctrlConfig l).openLimit ≤ s.liveCount l), .openLimit),
          ((List.finRange 64).all fun i => (s.exchange i).isSome || s.fenced i, .tableFull),
          (decide ((s.slotConfig n).queueLimit ≤ (s.slot n).queue.length), .queueFull),
          (decide (s.cmdFree < blockCount c.payload.length), .storeFull)]
      match checks.find? fun e => e.1 with
      | some (_, code) => s.admissionCheck l c = .error code
      | none => ∃ i, s.admissionCheck l c = .ok (n, i) ∧ s.exchange i = none ∧ s.fenced i = false
          ∧ ∀ j, j < i → (s.exchange j).isSome = true ∨ s.fenced j = true

/-- CMD on a CMD that fails a check: one refusal RESP with its tag and the code, the offer over, the pointer at its
link, nothing else changed. -/
def Obligations.RefusedCmdGetsARefusal : Prop :=
  ∀ (s : Machine.State) (l : CtrlIx) (c : CmdFrame) (code : RelayCode),
    s.nextOffer = some l → (s.ctrl l).offered = some c → s.admissionCheck l c = .error code →
      exec .cmd s = .next ({ s.onCtrl l fun b =>
        { b with offered := none, replyQ := b.replyQ ++ [ReplyItem.refusal c.tag code] } with rotation := l }).settle

/-- CMD on a CMD that passes every check: its entry, admission number, command blocks, Slot Queue place and, if it
is ordered, Order List place, and nothing else. -/
def Obligations.AdmittedCmdBecomesAnExchange : Prop :=
  ∀ (s : Machine.State) (l : CtrlIx) (c : CmdFrame) (n : SlotIx) (i : XtIx),
    s.nextOffer = some l → (s.ctrl l).offered = some c → s.admissionCheck l c = .ok (n, i) →
      let x : Exchange :=
        { id :=
            { link := l, tag := c.tag, slot := n, cls := c.cls, ordered := c.ordered,
              admission := s.admissionCounter, cmdLen := c.payload.length, maxResp := c.maxResp }
          phase := .queued { blocks := blockCount c.payload.length, payload := c.payload } }
      exec .cmd s = .next ({
        ((s.setEntry i { gen := (s.entry i).gen, live := some x }).onSlot n fun b =>
          { b with queue := b.queue ++ [i] }).onCtrl l fun b =>
            { b with
              offered := none
              orderList := if c.ordered then b.orderList ++ [i] else b.orderList } with
        rotation := l
        admissionOrder := s.admissionOrder ++ [i]
        admissionCounter := s.admissionCounter + 1
        cmdFree := s.cmdFree - blockCount c.payload.length }).settle

/-- Offers are taken in rotating order, beginning with the link after the pointer's; with none, CMD changes
nothing. (Model's choices: logs 3 and 28.) -/
def Obligations.OffersAreTakenInRotation : Prop :=
  ∀ s : Machine.State,
    (∀ l, s.nextOffer = some l ↔ ((s.ctrl l).offered.isSome = true
      ∧ ∀ l' : CtrlIx, (l' - s.rotation - 1).val < (l - s.rotation - 1).val → (s.ctrl l').offered = none))
    ∧ ((∀ l, (s.ctrl l).offered = none) → exec .cmd s = .next s)

/-- ABORT acts on its entry by its state as Table 6.1 gives, answers with one REPLY, and waits while the entry's
ISSUE is in transit. -/
def Obligations.AbortActsByState : Prop :=
  ∀ (l : CtrlIx) (tag : Byte) (s : Machine.State), s.takes l (.abort tag) →
    let u := s.tookFrame l
    let answered (t : Machine.State) (r : ReplyResult) : Machine.State :=
      t.onCtrl l fun b => { b with replyQ := b.replyQ ++ [ReplyItem.reply tag .abort r []] }
    let cancelling (i : XtIx) (x : Exchange) (sp : RespSpace) (d : Nat) (p : Position) : Machine.State :=
      (u.setEntry i { u.entry i with live := some { x with phase := .cancelling sp d p } }).onSlot x.id.slot fun b =>
        { b with sendQ := b.sendQ ++ [SlotFrame.cancel (s.relayTag i)] }.withdraw (.keep (s.relayTag i))
    (s.tagged l tag = none → exec (.abort l) s = .next (answered u .unknown).settle)
    ∧ ∀ i x, s.tagged l tag = some i → s.exchange i = some x →
      (s.inTransit i = true →
        exec (.abort l) s = .next (u.withWaiting (u.waiting ++ [WaitingCause.abort l tag i])).settle)
      ∧ (s.inTransit i = false →
        (∀ c, x.phase = .queued c →
          exec (.abort l) s = .next (answered (u.endExchange i (.relay .aborted) false) .taken).settle)
        ∧ (∀ c sp d, x.phase = .active (some c) sp d →
          exec (.abort l) s = .next (answered (u.endExchange i (.relay .aborted) false) .taken).settle)
        ∧ (∀ sp d, x.phase = .active none sp d →
          exec (.abort l) s = .next (answered (cancelling i x sp d .active) .taken).settle)
        ∧ (∀ sp d, x.phase = .parked sp d →
          exec (.abort l) s = .next (answered (cancelling i x sp d .parked) .taken).settle)
        ∧ (∀ sp d p, x.phase = .cancelling sp d p →
          exec (.abort l) s = .next (answered u .repeated).settle)
        ∧ (x.isEnded = true → exec (.abort l) s = .next (answered u .tooLate).settle))

/-! ## Endings -/

/-- What an ending does to everything it touches (R15, R16, R4, R79), for an entry that has not ended: the entry,
the stores, the Slot Queue, the Slot Send Queue (of a link that is not sending a frame of this tag) and the Orphan
Set; other entries stay, or leave HELD by the cascade; nothing else changes. -/
def Obligations.EndingOfAnExchange : Prop :=
  ∀ (s : Machine.State) (i : XtIx) (x : Exchange) (r : Response) (orphan : Bool),
    s.exchange i = some x → x.isEnded = false →
    (∀ f, (s.slot x.id.slot).link.sending = some (.slotFrame f) →
      f ≠ .issue (s.relayTag i) ∧ f ≠ .keep (s.relayTag i) ∧ f ≠ .cancel (s.relayTag i)) →
    let t := s.endExchange i r orphan
    let n := x.id.slot
    let l := x.id.link
    let tag := s.relayTag i
    (t.entry i).gen = (s.entry i).gen
    ∧ t.exchange i = some { x with
        phase := if x.id.ordered = true ∧ s.orderHead l ≠ some i then .held r else .released r }
    ∧ t.cmdFree = s.cmdFree + (match x.cmdSpace with | some c => c.blocks | none => 0)
    ∧ (match x.respSpace with
      | some sp => t.generalFree = s.generalFree + (if sp.pool = .general then sp.blocks - r.keptBlocks else 0)
          ∧ ∀ l', t.reserve l' =
              s.reserve l' + (if l' = l ∧ sp.pool = .reserve then sp.blocks - r.keptBlocks else 0)
      | none => t.generalFree = s.generalFree ∧ ∀ l', t.reserve l' = s.reserve l')
    ∧ t.slot n = { s.slot n with
        queue := (s.slot n).queue.filter (· != i)
        sendQ := (s.slot n).sendQ.filter fun f =>
          f != .issue tag && f != .keep tag && (orphan || f != .cancel tag)
        orphans := match orphan, x.orphans with
          | true, some p => (s.slot n).orphans ++ [⟨tag, p, s.now + s.active.params.orphanDeadline * 5000000⟩]
          | _, _ => (s.slot n).orphans }
    ∧ (∀ m, m ≠ n → t.slot m = s.slot m) ∧ (∀ l', l' ≠ l → t.ctrl l' = s.ctrl l')
    ∧ t.ctrl l = { s.ctrl l with orderList := (t.ctrl l).orderList, releaseQ := (t.ctrl l).releaseQ }
    ∧ (∀ j, j ≠ i → (t.entry j).gen = (s.entry j).gen ∧ (s.exchange j = none → t.exchange j = none)
        ∧ ∀ y, s.exchange j = some y → ∃ z, t.exchange j = some z ∧ y.sameOrReleased z)
    ∧ t.admissionOrder = s.admissionOrder ∧ t.noticeId = s.noticeId ∧ t.waiting = s.waiting
    ∧ t.tables = s.tables ∧ t.now = s.now ∧ t.pending = s.pending

/-- The Order Unit: an unordered response is released; an ordered one behind its order head is held; the order
head's is released with the HELD elements that follow it, up to the first that is not HELD. -/
def Obligations.OrderUnitPlacesAResponse : Prop :=
  ∀ (s : Machine.State) (i : XtIx) (x : Exchange) (r : Response), s.exchange i = some x → x.isEnded = false →
    let t := s.handToOrderUnit i x r
    let l := x.id.link
    (x.id.ordered = false → t.exchange i = some { x with phase := .released r }
      ∧ (t.ctrl l).releaseQ = (s.ctrl l).releaseQ ++ [i] ∧ (t.ctrl l).orderList = (s.ctrl l).orderList)
    ∧ (x.id.ordered = true → s.orderHead l ≠ some i → t.exchange i = some { x with phase := .held r }
      ∧ t.ctrl l = s.ctrl l)
    ∧ ∀ rest, x.id.ordered = true → (s.ctrl l).orderList = i :: rest → (i :: rest).Nodup →
      let go := rest.takeWhile s.isHeldAt
      t.exchange i = some { x with phase := .released r }
      ∧ (t.ctrl l).releaseQ = (s.ctrl l).releaseQ ++ i :: go
      ∧ (t.ctrl l).orderList = rest.drop go.length
      ∧ (∀ j ∈ go, ∀ y r', s.exchange j = some y → y.phase = .held r' →
          t.exchange j = some { y with phase := .released r' })
      ∧ ∀ j, j ≠ i → j ∉ go → t.entry j = s.entry j

/-! ## Reservations -/

/-- TAKE answers by access and by the requester's place in the record, as Table 7.2 gives; a slot address above 7
is NO_SLOT for TAKE, RENEW and DROP alike. -/
def Obligations.TakeAnswersByTheRecord : Prop :=
  ∀ (l : CtrlIx) (tag a : Byte) (s : Machine.State),
    let u := s.tookFrame l
    let answered (t : Machine.State) (r : ReplyResult) (data : List Byte) : Machine.State :=
      t.onCtrl l fun b => { b with replyQ := b.replyQ ++ [ReplyItem.reply tag .resv r data] }
    (slotOfByte a = none →
      (s.takes l (.resv tag .take a) → exec (.take l) s = .next (answered u .noSlot []).settle)
      ∧ (s.takes l (.resv tag .renew a) → exec (.renew l) s = .next (answered u .noSlot []).settle)
      ∧ (s.takes l (.resv tag .drop a) → exec (.drop l) s = .next (answered u .noSlot []).settle))
    ∧ ∀ n, slotOfByte a = some n → s.takes l (.resv tag .take a) →
      let R := (s.slot n).resv
      let lease := if (s.slotConfig n).lease = 0 then none else some (s.now + (s.slotConfig n).lease * 500000)
      (s.access l n ≠ .full → exec (.take l) s = .next (answered u .noAccess []).settle)
      ∧ (s.access l n = .full →
        (R.holder = none → exec (.take l) s = .next ((answered (u.onSlot n fun b =>
          { b with resv := { R with holder := some l, lease } }) .granted []).preempt n l).settle)
        ∧ (R.holder = some l → exec (.take l) s = .next (answered (u.onSlot n fun b =>
          { b with resv := { R with lease } }) .granted []).settle)
        ∧ ∀ h, R.holder = some h → h ≠ l →
          (l ∈ R.waiting → exec (.take l) s =
            .next (answered u .queued [BitVec.ofNat 8 (R.waiting.idxOf l + 1)]).settle)
          ∧ (l ∉ R.waiting → exec (.take l) s = .next (answered (u.onSlot n fun b =>
            { b with resv := { R with waiting := R.waiting ++ [l] } }) .queued
              [BitVec.ofNat 8 (R.waiting.length + 1)]).settle))

/-- R113: a RENEW from the holder is answered RENEWED and restarts the lease; from any other link, waiting or not,
it is answered NOT_HOLDER; the Access Table does not enter, and nothing else changes. -/
def Obligations.RenewRestartsTheLease : Prop :=
  ∀ (l : CtrlIx) (tag a : Byte) (n : SlotIx) (s : Machine.State),
    s.takes l (.resv tag .renew a) → slotOfByte a = some n →
    let answered (t : Machine.State) (r : ReplyResult) : Machine.State :=
      t.onCtrl l fun b => { b with replyQ := b.replyQ ++ [ReplyItem.reply tag .resv r []] }
    ((s.slot n).resv.holder = some l → exec (.renew l) s = .next (answered ((s.tookFrame l).onSlot n fun b =>
      { b with resv := { b.resv with
          lease := if (s.slotConfig n).lease = 0 then none
            else some (s.now + (s.slotConfig n).lease * 500000) } }) .renewed).settle)
    ∧ ((s.slot n).resv.holder ≠ some l →
      exec (.renew l) s = .next (answered (s.tookFrame l) .notHolder).settle)

/-- DROP: the holder is answered DROPPED and the slot is handed over; a waiter leaves the list; any other link is
answered NOT_HOLDER. -/
def Obligations.DropAnswersByTheRecord : Prop :=
  ∀ (l : CtrlIx) (tag a : Byte) (n : SlotIx) (s : Machine.State),
    s.takes l (.resv tag .drop a) → slotOfByte a = some n →
    let u := s.tookFrame l
    let R := (s.slot n).resv
    let answered (t : Machine.State) (r : ReplyResult) : Machine.State :=
      t.onCtrl l fun b => { b with replyQ := b.replyQ ++ [ReplyItem.reply tag .resv r []] }
    (R.holder = some l → exec (.drop l) s = .next ((answered u .dropped).handOver n).settle)
    ∧ (R.holder ≠ some l → l ∈ R.waiting → exec (.drop l) s = .next (answered (u.onSlot n fun b =>
        { b with resv := { R with waiting := R.waiting.filter (· != l) } }) .dropped).settle)
    ∧ (R.holder ≠ some l → l ∉ R.waiting → exec (.drop l) s = .next (answered u .notHolder).settle)

/-- A hand-over gives the slot to the first waiter with FULL access, with its lease started and RESV_GRANTED, and
removes those before it with WAIT_ENDED for ACCESS; without one the slot has no holder. A cleared record names nobody:
its holder gets RESV_REVOKED and each waiter WAIT_ENDED with the cause. A notice takes the next id and is queued, or
lost when 16 are. -/
def Obligations.HandOverAndClearing : Prop :=
  ∀ (s : Machine.State) (n : SlotIx),
    let R := (s.slot n).resv
    let gets (t : Machine.State) (l : CtrlIx) (k : Nat) (kind : NoticeKind) (cause : NoticeCause) : Prop :=
      (s.ctrl l).noticeQ.length < 16 → (t.ctrl l).noticeQ = (s.ctrl l).noticeQ
        ++ [⟨s.noticeId + BitVec.ofNat 8 k, kind, BitVec.ofNat 8 n.val, cause, []⟩]
    (∀ skipped w rest, R.waiting = skipped ++ w :: rest → (∀ l ∈ skipped, s.access l n ≠ .full) →
      s.access w n = .full →
      let t := s.handOver n
      (t.slot n).resv =
        { holder := some w
          lease := if (s.slotConfig n).lease = 0 then none else some (s.now + (s.slotConfig n).lease * 500000)
          waiting := rest }
      ∧ t.noticeId = s.noticeId + BitVec.ofNat 8 (skipped.length + 1)
      ∧ (w ∉ skipped → gets t w skipped.length .resvGranted .none)
      ∧ (R.waiting.Nodup → ∀ k l, skipped[k]? = some l → gets t l k .waitEnded .access)
      ∧ ∀ l, l ≠ w → l ∉ skipped → (t.ctrl l).noticeQ = (s.ctrl l).noticeQ)
    ∧ ((∀ l ∈ R.waiting, s.access l n ≠ .full) →
      ((s.handOver n).slot n).resv = ⟨none, none, []⟩
      ∧ (s.handOver n).noticeId = s.noticeId + BitVec.ofNat 8 R.waiting.length
      ∧ (R.waiting.Nodup → ∀ k l, R.waiting[k]? = some l → gets (s.handOver n) l k .waitEnded .access)
      ∧ ∀ l, l ∉ R.waiting → (s.handOver n).ctrl l = s.ctrl l)
    ∧ (∀ cause,
      let t := s.clearReservation n cause
      let held := R.holder.toList.length
      (t.slot n).resv = ⟨none, none, []⟩ ∧ (∀ m, m ≠ n → t.slot m = s.slot m)
      ∧ t.noticeId = s.noticeId + BitVec.ofNat 8 (held + R.waiting.length)
      ∧ (∀ h, R.holder = some h → h ∉ R.waiting → gets t h 0 .resvRevoked cause)
      ∧ (R.waiting.Nodup → ∀ k l, R.waiting[k]? = some l → R.holder ≠ some l → gets t l (held + k) .waitEnded cause)
      ∧ (∀ l, R.holder ≠ some l → l ∉ R.waiting → t.ctrl l = s.ctrl l)
      ∧ t.entries = s.entries)
    ∧ ∀ l kind subject cause data,
      let t := s.notify l kind subject cause data
      ((s.ctrl l).noticeQ.length < 16 → t.ctrl l =
        { s.ctrl l with noticeQ := (s.ctrl l).noticeQ ++ [⟨s.noticeId, kind, subject, cause, data⟩] })
      ∧ (16 ≤ (s.ctrl l).noticeQ.length → t.ctrl l = { s.ctrl l with lost := true })
      ∧ (∀ l', l' ≠ l → t.ctrl l' = s.ctrl l')
      ∧ t = { s with ctrls := t.ctrls, noticeId := s.noticeId + 1 }

/-- A grant ends every QUEUED ACTION of another link in the Slot Queue with PREEMPTED; QUERY exchanges, the new
holder's, and those outside the queue stay, but for a release from HELD. -/
def Obligations.GrantPreemptsForeignActions : Prop :=
  ∀ (s : Machine.State) (n : SlotIx) (l : CtrlIx) (i : XtIx) (x : Exchange), s.exchange i = some x →
    let t := s.preempt n l
    (i ∈ (s.slot n).queue → x.isQueued = true → x.id.cls = .action → x.id.link ≠ l →
      t.exchange i = some { x with phase := .held (.relay .preempted) }
        ∨ t.exchange i = some { x with phase := .released (.relay .preempted) })
    ∧ (i ∉ (s.slot n).queue ∨ x.isQueued = false ∨ x.id.cls = .query ∨ x.id.link = l →
      ∃ y, t.exchange i = some y ∧ x.sameOrReleased y)

/-! ## Management requests -/

/-- R158: READ_IDENT is answered OK on every link with part code 408 and revision 2, the values of the relay's
HELLO, and changes nothing; with an argument it is BAD_REQUEST. -/
def Obligations.ReadIdentGivesPartAndRevision : Prop :=
  ∀ (l : CtrlIx) (tag : Byte) (args : List Byte) (s : Machine.State), s.takes l (.mgmt tag 0x01 args) →
    let answered (r : ReplyResult) (data : List Byte) : Machine.State :=
      (s.tookFrame l).onCtrl l fun b => { b with replyQ := b.replyQ ++ [ReplyItem.reply tag .mgmt r data] }
    (args = [] → exec (.readIdent l) s = .next (answered .ok [0x01, 0x98, 0x02]).settle)
    ∧ (args ≠ [] → exec (.readIdent l) s = .next (answered .badRequest []).settle)
    ∧ ∀ places : Nat, helloBytes places = frameBytes 0x01 0 [0x03, BitVec.ofNat 8 places, 0x01, 0x98, 0x02]

/-- READ_ENTRY, READ_SLOT, READ_EXCHANGE and READ_STORE answer with what stands in the state, out of range with
their result, and change nothing. -/
def Obligations.ReadsAnswerAndChangeNothing : Prop :=
  ∀ (l : CtrlIx) (tag : Byte) (s : Machine.State),
    let answered (r : ReplyResult) (data : List Byte) : Machine.State :=
      (s.tookFrame l).onCtrl l fun b => { b with replyQ := b.replyQ ++ [ReplyItem.reply tag .mgmt r data] }
    let epoch := be16 s.epoch.toNat
    (∀ (b i : Byte) (bank : Bank), b = 0 ∧ bank = s.staged ∨ b = 1 ∧ bank = s.active →
      (∀ h : i.toNat < 8, s.takes l (.mgmt tag 0x02 [1, b, i]) →
        exec (.readEntry l) s = .next (answered .ok ((bank.slotTable[i.toNat]'h).image ++ epoch)).settle)
      ∧ (∀ h : i.toNat < 32, s.takes l (.mgmt tag 0x02 [2, b, i]) →
        exec (.readEntry l) s = .next (answered .ok ((bank.access[i.toNat]'h).byte :: epoch)).settle)
      ∧ (∀ h : i.toNat < 4, s.takes l (.mgmt tag 0x02 [3, b, i]) →
        exec (.readEntry l) s = .next (answered .ok ((bank.control[i.toNat]'h).image ++ epoch)).settle)
      ∧ (i = 0 → s.takes l (.mgmt tag 0x02 [4, b, i]) →
        exec (.readEntry l) s = .next (answered .ok (bank.params.image ++ epoch)).settle))
    ∧ (∀ t b i : Byte, s.takes l (.mgmt tag 0x02 [t, b, i]) →
      (t.toNat = 0 ∨ 4 < t.toNat ∨ 1 < b.toNat ∨ t = 1 ∧ 8 ≤ i.toNat ∨ t = 2 ∧ 32 ≤ i.toNat ∨ t = 3 ∧ 4 ≤ i.toNat
        ∨ t = 4 ∧ i ≠ 0) → exec (.readEntry l) s = .next (answered .badRequest []).settle)
    ∧ (∀ a, s.takes l (.mgmt tag 0x03 [a]) →
      (∀ n, slotOfByte a = some n →
        exec (.readSlot l) s = .next (answered .ok ((s.tookFrame l).slotView n)).settle)
      ∧ (8 ≤ a.toNat → exec (.readSlot l) s = .next (answered .badValue []).settle))
    ∧ (∀ a, s.takes l (.mgmt tag 0x04 [a]) →
      (∀ i, indexOfByte a = some i →
        exec (.readExchange l) s = .next (answered .ok ((s.tookFrame l).exchangeView i)).settle)
      ∧ (64 ≤ a.toNat → exec (.readExchange l) s = .next (answered .badValue []).settle))
    ∧ (s.takes l (.mgmt tag 0x05 []) →
      exec (.readStore l) s = .next (answered .ok (s.tookFrame l).storeView).settle)

/-- The bytes of the entry images (Table 12.5) and of the data of READ_SLOT, READ_STORE and READ_EXCHANGE (R179), field
by field; each entry image is read back as it is written, and every relay tag byte as its tag. -/
def Obligations.ImagesAreLaidOut : Prop :=
  let yes (b : Bool) : Byte := if b then 1 else 0
  let one (k : Nat) : Byte := BitVec.ofNat 8 k
  let two (k : Nat) : List Byte := [one (k / 256), one k]
  (∀ c : SlotConfig, c.image = [yes c.enabled, one c.window, one c.parkedLimit, one c.queueLimit,
      one c.activeDeadline, one c.parkedDeadline, one c.lease]
    ∧ (c.inRange = true → slotConfigOfImage c.image = some c))
  ∧ (Access.byte .none = 0 ∧ Access.byte .query = 1 ∧ Access.byte .full = 2
    ∧ ∀ a : Access, accessOfImage [a.byte] = some a)
  ∧ (∀ c : CtrlConfig, c.image = [one c.openLimit, yes c.manager]
    ∧ (c.inRange = true → ctrlConfigOfImage c.image = some c))
  ∧ (∀ p : Params, p.image = [one p.ackWindow, one p.orphanDeadline]
    ∧ (p.inRange = true → paramsOfImage p.image = some p))
  ∧ (∀ t : RelayTag, byteOfTag t = one (t.gen.toNat * 64 + t.index.val) ∧ tagOfByte (byteOfTag t) = t)
  ∧ ∀ s : Machine.State,
    let ms (e : Nat) : Nat := (e - s.now) / 50000
    let pool (p : Pool) : Byte := match p with
      | .general => 0
      | .reserve => 1
    let count (n : SlotIx) (p : Position) : Nat :=
      ((List.finRange 64).filter fun i => s.exchangeIs i fun x => x.id.slot == n && (match x.phase with
        | .active _ _ _ => p == .active
        | .parked _ _ => p == .parked
        | .cancelling _ _ former => p == former
        | .queued _ | .held _ | .released _ => false)).length
      + ((s.slot n).orphans.filter fun o => o.former == p).length
    (∀ n,
      let b := s.slot n
      let awaited : Option Awaited := match b.state with
        | .faulted a => a
        | _ => none
      let code : Option Byte := match b.lastFault with
        | .faultFrame c => some c
        | _ => none
      let waits : Bool := b.state == .online && (s.slotConfig n).enabled
        && decide (count n .active < (s.slotConfig n).window)
        && (match b.queue with
          | i :: _ => s.exchangeIs i fun x => decide (0 < x.id.maxResp)
          | [] => false)
      s.slotView n =
        [(match b.state with
            | .offline => 0
            | .online => 1
            | .faulted _ => 2
            | .resetting _ => 3),
          (match b.link.state with
            | .down => 0
            | .waitHello => 1
            | .up => 2),
          (match b.lastFault with
            | .none => 0
            | .faultFrame _ => 5
            | .linkLost => 6
            | .orphanExpired => 7),
          code.getD 0,
          one ((if code.isSome then 1 else 0) + (if awaited.isSome then 2 else 0)
            + (if b.resv.holder.isSome then 4 else 0) + (if b.resv.lease.isSome then 8 else 0)),
          (awaited.map fun (a : Awaited) => a.id).getD 0]
        ++ two ((awaited.map fun (a : Awaited) => ms a.window).getD 0)
        ++ [one b.queue.length, yes waits, one (count n .active), one (count n .parked), one b.orphans.length,
          (b.resv.holder.map fun (l : CtrlIx) => one l.val).getD 0]
        ++ two ((b.resv.lease.map ms).getD 0) ++ [one b.resv.waiting.length]
        ++ ((b.resv.waiting.map fun (l : CtrlIx) => one l.val) ++ [0, 0, 0]).take 3)
    ∧ s.storeView = [one s.cmdFree, one s.generalFree] ++ (List.finRange 4).flatMap (fun l =>
        [one (s.reserve l), one (4 - s.reserve l),
          match (List.finRange 64).find? fun i => decide (0 < (s.entry i).respBlocks (some l)) with
            | some i => one i.val
            | none => 0xFF])
    ∧ ∀ i,
      let fenced := (List.finRange 8).any fun n => (s.slot n).orphans.any fun o => o.tag.index == i
      let head (st : Byte) : List Byte := [one i.val, st, one (s.entry i).gen.toNat, yes fenced]
      (s.exchange i = none → s.exchangeView i = head 0)
      ∧ ∀ x, s.exchange i = some x →
        let id := x.id
        let ident : List Byte := [one id.link.val, id.tag, one id.slot.val, (match id.cls with
            | .query => 0
            | .action => 1), yes id.ordered]
          ++ two (id.admission.toNat / 65536) ++ two id.admission.toNat ++ two id.cmdLen ++ two id.maxResp
        let record (r : Response) : List Byte := match r with
          | .slot a => [one a.space.blocks, pool a.space.pool, 0, (match a.outcome with
              | .completed => 0
              | .cancelled => 1), a.status, yes a.lateAbort] ++ two a.payload.length
          | .relay c => [1, c.byte]
        s.exchangeView i = match x.phase with
          | .queued c => head 1 ++ ident ++ [one c.blocks]
          | .active (some c) r d => head 2 ++ ident ++ [one c.blocks, one r.blocks, pool r.pool, 0] ++ two (ms d)
          | .active none r d => head 2 ++ ident ++ [one r.blocks, pool r.pool, 1] ++ two (ms d)
          | .parked r d => head 3 ++ ident ++ [one r.blocks, pool r.pool, 1] ++ two (ms d)
          | .cancelling r d former => head 4 ++ ident ++ [one r.blocks, pool r.pool, 1] ++ two (ms d)
              ++ [match former with
                | .active => 2
                | .parked => 3]
          | .held r => head 5 ++ ident ++ record r
          | .released r => head 6 ++ ident ++ record r

/-- WRITE_ENTRY from the manager: an image within range replaces the staged entry; a wrong table, index or length
is BAD_REQUEST, a field out of range BAD_VALUE, and neither changes a bank. -/
def Obligations.WriteEntryReplacesAStagedEntry : Prop :=
  ∀ (l : CtrlIx) (tag : Byte) (args : List Byte) (s : Machine.State),
    s.takes l (.mgmt tag 0x06 args) → s.isManager l = true →
    let answered (t : Machine.State) (r : ReplyResult) : Machine.State :=
      t.onCtrl l fun b => { b with replyQ := b.replyQ ++ [ReplyItem.reply tag .mgmt r []] }
    let u := s.tookFrame l
    (∀ (i : Byte) (c : SlotConfig), c.inRange = true → args = 1 :: i :: c.image → (h : i.toNat < 8) →
      exec (.writeEntry l) s = .next (answered { u with
        staged := { s.staged with slotTable := s.staged.slotTable.set i.toNat c } } .ok).settle)
    ∧ (∀ (i : Byte) (a : Access), args = [2, i, a.byte] → (h : i.toNat < 32) →
      exec (.writeEntry l) s = .next (answered { u with
        staged := { s.staged with access := s.staged.access.set i.toNat a } } .ok).settle)
    ∧ (∀ (i : Byte) (c : CtrlConfig), c.inRange = true → args = 3 :: i :: c.image → (h : i.toNat < 4) →
      exec (.writeEntry l) s = .next (answered { u with
        staged := { s.staged with control := s.staged.control.set i.toNat c } } .ok).settle)
    ∧ (∀ p : Params, p.inRange = true → args = 4 :: 0 :: p.image →
      exec (.writeEntry l) s = .next (answered { u with staged := { s.staged with params := p } } .ok).settle)
    ∧ (∀ (i : Byte) (image : List Byte), args = 1 :: i :: image → i.toNat < 8 → image.length = 7 →
      slotConfigOfImage image = none → exec (.writeEntry l) s = .next (answered u .badValue).settle)
    ∧ (∀ i a : Byte, args = [2, i, a] → i.toNat < 32 → 2 < a.toNat →
      exec (.writeEntry l) s = .next (answered u .badValue).settle)
    ∧ (∀ i o m : Byte, args = [3, i, o, m] → i.toNat < 4 → o.toNat = 0 ∨ 32 < o.toNat ∨ 1 < m.toNat →
      exec (.writeEntry l) s = .next (answered u .badValue).settle)
    ∧ (∀ w o : Byte, args = [4, 0, w, o] → w.toNat = 0 ∨ o.toNat = 0 ∨ 50 < o.toNat →
      exec (.writeEntry l) s = .next (answered u .badValue).settle)
    ∧ (∀ (t i : Byte) (image : List Byte), args = t :: i :: image →
      (t.toNat = 0 ∨ 4 < t.toNat ∨ t = 1 ∧ (8 ≤ i.toNat ∨ image.length ≠ 7) ∨ t = 2 ∧ (32 ≤ i.toNat ∨ image.length ≠ 1)
        ∨ t = 3 ∧ (4 ≤ i.toNat ∨ image.length ≠ 2) ∨ t = 4 ∧ (i ≠ 0 ∨ image.length ≠ 2)) →
      exec (.writeEntry l) s = .next (answered u .badRequest).settle)
    ∧ (args.length < 2 → exec (.writeEntry l) s = .next (answered u .badRequest).settle)

/-- R149: REVERT from the manager copies the active bank into the staged bank and is answered OK; from any other
link it is answered NOT_MANAGER. Nothing else changes. -/
def Obligations.RevertCopiesTheActiveBank : Prop :=
  ∀ (l : CtrlIx) (tag : Byte) (s : Machine.State), s.takes l (.mgmt tag 0x07 []) →
    let answered (t : Machine.State) (r : ReplyResult) : Machine.State :=
      t.onCtrl l fun b => { b with replyQ := b.replyQ ++ [ReplyItem.reply tag .mgmt r []] }
    (s.isManager l = true →
      exec (.revert l) s = .next (answered { s.tookFrame l with staged := s.active } .ok).settle)
    ∧ (s.isManager l = false → exec (.revert l) s = .next (answered (s.tookFrame l) .notManager).settle)

/-- ACTIVATE from the manager: a staged Controller Table with no manager, with two or more, or with one that is
not UP, is refused; else the banks become equal, the epoch counts, the queued work of a slot now disabled ends, the
other queued exchanges stay, and every UP link is told in order. -/
def Obligations.ActivateCopiesTheStagedBank : Prop :=
  ∀ (l : CtrlIx) (tag : Byte) (s : Machine.State), s.takes l (.mgmt tag 0x08 []) → s.isManager l = true →
    let refused (r : ReplyResult) : Machine.State :=
      (s.tookFrame l).onCtrl l fun b => { b with replyQ := b.replyQ ++ [ReplyItem.reply tag .mgmt r []] }
    let up : List CtrlIx := (List.finRange 4).filter fun l' => (s.ctrl l').link.state == .up
    (s.staged.managers = [] → exec (.activate l) s = .next (refused .noManager).settle)
    ∧ (2 ≤ s.staged.managers.length → exec (.activate l) s = .next (refused .twoManagers).settle)
    ∧ (∀ m, s.staged.managers = [m] → (s.ctrl m).link.state ≠ .up →
        exec (.activate l) s = .next (refused .managerDown).settle)
    ∧ ∀ m, s.staged.managers = [m] → (s.ctrl m).link.state = .up →
      ∃ t, exec (.activate l) s = .next t
        ∧ t.active = s.staged ∧ t.staged = s.staged ∧ t.epoch = s.epoch + 1
        ∧ t.noticeId = s.noticeId + BitVec.ofNat 8 up.length
        ∧ (∀ l' ∈ up, (s.ctrl l').noticeQ.length < 16 → (t.ctrl l').noticeQ = (s.ctrl l').noticeQ
            ++ [⟨s.noticeId + BitVec.ofNat 8 (up.idxOf l'), .tableActivated, ctrlByte m, .none,
              be16 (s.epoch + 1).toNat⟩])
        ∧ (∀ l', l' ∉ up → (t.ctrl l').noticeQ = (s.ctrl l').noticeQ)
        ∧ (∀ l', (t.ctrl l').replyQ =
            if l' = l then (s.ctrl l).replyQ ++ [ReplyItem.reply tag .mgmt .ok []] else (s.ctrl l').replyQ)
        ∧ (∀ n, ∀ i ∈ (s.slot n).queue, ∀ x, s.exchange i = some x → x.isQueued = true →
            (s.slotConfig n).enabled = true → s.staged.slotTable[n].enabled = false →
            t.exchange i = some { x with phase := .held (.relay .slotDisabled) }
              ∨ t.exchange i = some { x with phase := .released (.relay .slotDisabled) })
        ∧ (∀ i x, s.exchange i = some x → x.isQueued = true →
            (∀ n, i ∈ (s.slot n).queue → (s.slotConfig n).enabled = true → s.staged.slotTable[n].enabled = true) →
            t.exchange i = some x ∧ ∀ n, i ∈ (s.slot n).queue → i ∈ (t.slot n).queue)
        ∧ (∀ i x, s.exchange i = some x → x.isQueued = false → ∃ y, t.exchange i = some y ∧ x.sameOrReleased y)
        ∧ (∀ n, (t.slot n).resv = (s.slot n).resv ∧ (t.slot n).state = (s.slot n).state
            ∧ (t.slot n).orphans = (s.slot n).orphans ∧ (t.slot n).lastFault = (s.slot n).lastFault)
        ∧ t.now = s.now ∧ t.admissionCounter = s.admissionCounter ∧ t.admissionOrder = s.admissionOrder

/-- NOTICE_ACK from the manager stops the acknowledge window of every slot that awaits the id and is answered OK;
an id that no slot awaits is NOTICE_UNKNOWN and changes nothing. -/
def Obligations.NoticeAckStopsTheWindow : Prop :=
  ∀ (l : CtrlIx) (tag id : Byte) (s : Machine.State), s.takes l (.mgmt tag 0x09 [id]) → s.isManager l = true →
    let answered (t : Machine.State) (r : ReplyResult) : Machine.State :=
      t.onCtrl l fun b => { b with replyQ := b.replyQ ++ [ReplyItem.reply tag .mgmt r []] }
    let awaits (n : SlotIx) : Prop := ∃ w, (s.slot n).state = .faulted (some ⟨id, w⟩)
    ((∃ n, awaits n) → ∃ u, exec (.noticeAck l) s = .next (answered u .ok).settle
      ∧ (∀ n, awaits n → u.slot n = { s.slot n with state := .faulted none })
      ∧ (∀ n, ¬ awaits n → u.slot n = s.slot n)
      ∧ u = { s.tookFrame l with slots := u.slots })
    ∧ ((∀ n, ¬ awaits n) → exec (.noticeAck l) s = .next (answered (s.tookFrame l) .noticeUnknown).settle)

/-- SLOT_CLEAR from the manager: a FAULTED slot becomes ONLINE with SLOT_ONLINE when its link is UP, else OFFLINE;
in any other state it is WRONG_STATE; an address above 7 is BAD_VALUE. -/
def Obligations.SlotClearReturnsAFaultedSlot : Prop :=
  ∀ (l : CtrlIx) (tag a : Byte) (s : Machine.State), s.takes l (.mgmt tag 0x0A [a]) → s.isManager l = true →
    let u := s.tookFrame l
    let answered (t : Machine.State) (r : ReplyResult) : Machine.State :=
      t.onCtrl l fun b => { b with replyQ := b.replyQ ++ [ReplyItem.reply tag .mgmt r []] }
    (8 ≤ a.toNat → exec (.slotClear l) s = .next (answered u .badValue).settle)
    ∧ ∀ n, slotOfByte a = some n →
      (∀ w, (s.slot n).state = .faulted w →
        ((s.slot n).link.state = .up → exec (.slotClear l) s = .next (answered ((u.onSlot n fun b =>
          { b with state := .online }).notifyManager .slotOnline (slotByte n) .none []) .ok).settle)
        ∧ ((s.slot n).link.state ≠ .up → exec (.slotClear l) s = .next (answered (u.onSlot n fun b =>
          { b with state := .offline }) .ok).settle))
      ∧ ((∀ w, (s.slot n).state ≠ .faulted w) →
        exec (.slotClear l) s = .next (answered u .wrongState).settle)

/-- SLOT_RESET from the manager: the slot enters RESETTING for 2 ms with its output low and its reservation cleared,
an ONLINE slot's work ended first; with an ISSUE of the slot in transit it waits; RESETTING is WRONG_STATE. -/
def Obligations.SlotResetStartsThePulse : Prop :=
  ∀ (l : CtrlIx) (tag a : Byte) (s : Machine.State), s.takes l (.mgmt tag 0x0B [a]) → s.isManager l = true →
    let u := s.tookFrame l
    let answered (t : Machine.State) (r : ReplyResult) : Machine.State :=
      t.onCtrl l fun b => { b with replyQ := b.replyQ ++ [ReplyItem.reply tag .mgmt r []] }
    let pulse (t : Machine.State) (n : SlotIx) : Machine.State :=
      (t.onSlot n fun b => { b with state := .resetting (s.now + 100000) }).clearReservation n .slotReset
    (8 ≤ a.toNat → exec (.slotReset l) s = .next (answered u .badValue).settle)
    ∧ ∀ n, slotOfByte a = some n →
      (s.transitReached (.slotReset l tag n) = true →
        exec (.slotReset l) s = .next (u.withWaiting (u.waiting ++ [WaitingCause.slotReset l tag n])).settle)
      ∧ (s.transitReached (.slotReset l tag n) = false →
        ((s.slot n).state = .online →
          exec (.slotReset l) s = .next (answered (pulse (u.endSlotWork n .slotReset) n) .ok).settle)
        ∧ ((s.slot n).state = .offline → exec (.slotReset l) s = .next (answered (pulse u n) .ok).settle)
        ∧ (∀ w, (s.slot n).state = .faulted w → exec (.slotReset l) s = .next (answered (pulse u n) .ok).settle)
        ∧ ∀ p, (s.slot n).state = .resetting p →
          exec (.slotReset l) s = .next (answered u .wrongState).settle)
      ∧ ((pulse u n).slot n).state = .resetting (s.now + 100000) ∧ (pulse u n).slotResetLow n = true

/-- RELAY_RESTART from the manager is taken at once, or waits while an ISSUE is in transit. Taken, every live entry is
RELEASED in admission order, with RESTARTED or with the response it had; issued ones leave orphans and CANCELs (Table
6.5); no slot is reserved, every Order List is empty; tables, slot states, links and counters stay. -/
def Obligations.RelayRestartAnswersEveryExchange : Prop :=
  (∀ (l : CtrlIx) (tag : Byte) (s : Machine.State), s.takes l (.mgmt tag 0x0C []) → s.isManager l = true →
    (s.transitReached (.restart l tag) = true → exec (.relayRestart l) s =
      .next ((s.tookFrame l).withWaiting (s.waiting ++ [.restart l tag])).settle)
    ∧ (s.transitReached (.restart l tag) = false → exec (.relayRestart l) s =
      .next ((s.tookFrame l).takeWaiting (.restart l tag)).settle))
  ∧ ∀ (l : CtrlIx) (tag : Byte) (s : Machine.State), s.isManager l = true → s.collectionsOk →
    let t := s.takeWaiting (.restart l tag)
    (∀ i x, s.exchange i = some x → ∃ r, t.exchange i = some { x with phase := .released r }
        ∧ (x.isEnded = false → r = .relay .restarted)
        ∧ ∀ r', x.phase = .held r' ∨ x.phase = .released r' → r = r')
    ∧ (∀ i, s.exchange i = none → t.exchange i = none) ∧ (∀ i, (t.entry i).gen = (s.entry i).gen)
    ∧ (∀ n, (t.slot n).queue = [] ∧ (t.slot n).resv = ⟨none, none, []⟩ ∧ (t.slot n).state = (s.slot n).state
        ∧ (t.slot n).lastFault = (s.slot n).lastFault ∧ (t.slot n).link = (s.slot n).link
        ∧ (t.slot n).orphans = (s.slot n).orphans ++ s.orphansMade n (fun _ => true)
        ∧ ((∀ tag', (s.slot n).link.sending ≠ some (.slotFrame (.issue tag'))
              ∧ (s.slot n).link.sending ≠ some (.slotFrame (.keep tag'))) →
          (t.slot n).sendQ = (s.slot n).sendQ.filter (fun f => !(List.finRange 64).any fun i =>
              s.exchangeIs i (fun x => x.id.slot == n && !x.isEnded)
                && (f == .issue (s.relayTag i) || f == .keep (s.relayTag i)))
            ++ s.cancelsMade n (fun _ => true)))
    ∧ (∀ l', (t.ctrl l').orderList = [] ∧ (t.ctrl l').offered = (s.ctrl l').offered
        ∧ (t.ctrl l').link = (s.ctrl l').link
        ∧ (t.ctrl l').releaseQ = (s.ctrl l').releaseQ ++ s.admissionOrder.filter (fun i =>
            s.exchangeIs i fun x => x.id.link == l' && !x.isReleased)
        ∧ (t.ctrl l').replyQ =
          if l' = l then (s.ctrl l).replyQ ++ [ReplyItem.reply tag .mgmt .ok []] else (s.ctrl l').replyQ)
    ∧ s.sameTotals t
    ∧ t.noticeId = s.noticeId + BitVec.ofNat 8 (((List.finRange 8).map fun n =>
        (s.slot n).resv.holder.toList.length + (s.slot n).resv.waiting.length).sum)
    ∧ t.tables = s.tables ∧ t.now = s.now ∧ t.admissionOrder = s.admissionOrder

/-- The checks that every request meets first: an unknown code is BAD_REQUEST whatever link sent it; a change
request from a link that is not the manager is NOT_MANAGER whatever its arguments; arguments of another number than
the request takes are BAD_REQUEST. -/
def Obligations.ManagementChecksComeFirst : Prop :=
  ∀ (l : CtrlIx) (tag : Byte) (args : List Byte) (s : Machine.State),
    let answered (r : ReplyResult) : Machine.State :=
      (s.tookFrame l).onCtrl l fun b => { b with replyQ := b.replyQ ++ [ReplyItem.reply tag .mgmt r []] }
    (∀ code, s.takes l (.mgmt tag code args) → code.toNat = 0 ∨ 12 < code.toNat →
      exec (.mgmtUnknownRequest l) s = .next (answered .badRequest).settle)
    ∧ (s.isManager l = false →
      (s.takes l (.mgmt tag 0x06 args) → exec (.writeEntry l) s = .next (answered .notManager).settle)
      ∧ (s.takes l (.mgmt tag 0x07 args) → exec (.revert l) s = .next (answered .notManager).settle)
      ∧ (s.takes l (.mgmt tag 0x08 args) → exec (.activate l) s = .next (answered .notManager).settle)
      ∧ (s.takes l (.mgmt tag 0x09 args) → exec (.noticeAck l) s = .next (answered .notManager).settle)
      ∧ (s.takes l (.mgmt tag 0x0A args) → exec (.slotClear l) s = .next (answered .notManager).settle)
      ∧ (s.takes l (.mgmt tag 0x0B args) → exec (.slotReset l) s = .next (answered .notManager).settle)
      ∧ (s.takes l (.mgmt tag 0x0C args) → exec (.relayRestart l) s = .next (answered .notManager).settle))
    ∧ (args.length ≠ 3 → s.takes l (.mgmt tag 0x02 args) →
      exec (.readEntry l) s = .next (answered .badRequest).settle)
    ∧ (args.length ≠ 1 →
      (s.takes l (.mgmt tag 0x03 args) → exec (.readSlot l) s = .next (answered .badRequest).settle)
      ∧ (s.takes l (.mgmt tag 0x04 args) → exec (.readExchange l) s = .next (answered .badRequest).settle)
      ∧ (s.isManager l = true →
        (s.takes l (.mgmt tag 0x09 args) → exec (.noticeAck l) s = .next (answered .badRequest).settle)
        ∧ (s.takes l (.mgmt tag 0x0A args) → exec (.slotClear l) s = .next (answered .badRequest).settle)
        ∧ (s.takes l (.mgmt tag 0x0B args) → exec (.slotReset l) s = .next (answered .badRequest).settle)))
    ∧ (args ≠ [] →
      (s.takes l (.mgmt tag 0x05 args) → exec (.readStore l) s = .next (answered .badRequest).settle)
      ∧ (s.isManager l = true →
        (s.takes l (.mgmt tag 0x07 args) → exec (.revert l) s = .next (answered .badRequest).settle)
        ∧ (s.takes l (.mgmt tag 0x08 args) → exec (.activate l) s = .next (answered .badRequest).settle)
        ∧ (s.takes l (.mgmt tag 0x0C args) → exec (.relayRestart l) s = .next (answered .badRequest).settle)))

/-! ## Issues -/

/-- ISSUE, GENERAL_GRANT, RESERVE_GRANT and OVERTAKING_ISSUE each issue, from the pool it takes, under exactly these
conditions: R45 for the candidate, R72 and R73 for the oldest waiting one, R74 for the reserve, R47 and R75 for
overtaking. In every other case nothing changes. (Model's choices: logs 3, 18 and 29.) -/
def Obligations.IssuesFollowTheirGrants : Prop :=
  ∀ s : Machine.State,
    let need (x : Exchange) : Nat := blockCount x.id.maxResp
    let heads (n : SlotIx) (i : XtIx) : Prop :=
      (s.slot n).state = .online ∧ (s.slotConfig n).enabled = true ∧ s.windowCount n < (s.slotConfig n).window
        ∧ (s.slot n).queue.head? = some i
    let waits (i : XtIx) (x : Exchange) : Prop := s.exchange i = some x ∧ heads x.id.slot i ∧ need x ≠ 0
    let oldest (i : XtIx) : Prop := ∃ before after, s.admissionOrder = before ++ i :: after
      ∧ ∀ j ∈ before, ∀ y, ¬ waits j y
    let eligible (i : XtIx) (x : Exchange) : Prop :=
      (s.ctrl x.id.link).orderList.head? = some i ∧ s.reserve x.id.link = 4
    (∀ n i x, heads n i → s.exchange i = some x →
      (need x = 0 → exec (.issue n) s = .next (s.issueExchange i .general).settle)
      ∧ (need x ≠ 0 → exec (.issue n) s = .next s))
    ∧ (∀ n, (∀ i, heads n i → s.exchange i = none) → exec (.issue n) s = .next s)
    ∧ (∀ i x, waits i x → oldest i →
      (need x ≤ s.generalFree → exec .generalGrant s = .next (s.issueExchange i .general).settle)
      ∧ (s.generalFree < need x → exec .generalGrant s = .next s))
    ∧ ((∀ i ∈ s.admissionOrder, ∀ x, ¬ waits i x) → exec .generalGrant s = .next s)
    ∧ (∀ l i x, (s.ctrl l).orderList.head? = some i → waits i x →
      (s.reserve l = 4 → ¬ oldest i ∨ s.generalFree < need x →
        exec (.reserveGrant l) s = .next (s.issueExchange i .reserve).settle)
      ∧ (oldest i → need x ≤ s.generalFree → exec (.reserveGrant l) s = .next s)
      ∧ (s.reserve l ≠ 4 → exec (.reserveGrant l) s = .next s))
    ∧ (∀ l i, (s.ctrl l).orderList.head? = some i → (∀ x, ¬ waits i x) → exec (.reserveGrant l) s = .next s)
    ∧ (∀ l, (s.ctrl l).orderList = [] → exec (.reserveGrant l) s = .next s)
    ∧ (∀ n h y before i x after, heads n h → s.exchange h = some y → need y ≠ 0 →
      (s.slot n).queue = h :: (before ++ i :: after) → s.exchange i = some x → eligible i x →
      (∀ j ∈ before, ∀ z, s.exchange j = some z → ¬ eligible j z) →
      exec (.overtakingIssue n) s =
        .next (s.issueExchange i (if need x = 0 then .general else .reserve)).settle)
    ∧ (∀ n, (∀ h y, heads n h → s.exchange h = some y → need y = 0) → exec (.overtakingIssue n) s = .next s)
    ∧ ∀ n, (∀ j ∈ (s.slot n).queue.tail, ∀ z, s.exchange j = some z → ¬ eligible j z) →
      exec (.overtakingIssue n) s = .next s

/-- An issue takes the exchange out of its Slot Queue and its need out of the pool, makes it ACTIVE with issue
sent = no and a deadline one active deadline ahead, and queues its ISSUE; nothing else changes. -/
def Obligations.IssueMakesAnExchangeActive : Prop :=
  ∀ (s : Machine.State) (i : XtIx) (x : Exchange) (c : CmdSpace) (pool : Pool),
    s.exchange i = some x → x.phase = .queued c →
    let need := blockCount x.id.maxResp
    let p : Phase := .active (some c) ⟨need, pool⟩ (s.now + (s.slotConfig x.id.slot).activeDeadline * 50000)
    s.issueExchange i pool =
      { (s.setEntry i { s.entry i with live := some { x with phase := p } }).onSlot x.id.slot fun b =>
          { b with
            queue := b.queue.filter (· != i)
            sendQ := b.sendQ ++ [SlotFrame.issue { index := i, gen := (s.entry i).gen }] } with
        generalFree := (if pool = .general then s.generalFree - need else s.generalFree)
        reserveFree := if pool = .reserve then s.reserveFree.set x.id.link (s.reserve x.id.link - need)
          else s.reserveFree }

/-! ## Sending -/

/-- A Slot Link that may begin a frame begins the oldest of its queue, with every owed credit up to 16 in its
header and one credit used; with the queue empty a CREDIT frame if a credit is owed for another frame; an ISSUE
that a waiting cause holds back is not begun. Otherwise nothing changes. (Model's choices: logs 3, 9 and 22.) -/
def Obligations.SlotLinkSendsItsOldestFrame : Prop :=
  ∀ (n : SlotIx) (s : Machine.State),
    let b := (s.slot n).link
    let count := min (b.owedOther + b.owedCredit) 16
    let begins (what : Sending) (bytes : List Byte) : Machine.State := s.onSlot n fun c =>
      { c with link := { b with
          held := b.held - 1, owedOther := b.owedOther - count, owedCredit := b.owedCredit - (count - b.owedOther),
          sending := some what, txLine := bytes } }
    let may := b.state = .up ∧ b.sending = none ∧ (2 ≤ b.held ∨ b.held = 1 ∧ (1 ≤ b.owed ∨ b.announced = 1))
    (∀ t rest i x c, may → (s.slot n).sendQ = .issue t :: rest → t.index = i → s.exchange i = some x →
      x.cmdSpace = some c →
      (s.heldBack i = false → exec (.slotLinkSend n) s = .next (begins (.slotFrame (.issue t)) (frameBytes 0x30 count
        (byteOfTag t :: BitVec.ofNat 8 x.id.link.val :: x.id.cls.byte
          :: (be16 x.id.maxResp ++ be16 c.payload.length ++ c.payload)))).settle)
      ∧ (s.heldBack i = true →
        (b.owedOther = 0 → exec (.slotLinkSend n) s = .next s)
        ∧ (1 ≤ b.owedOther → exec (.slotLinkSend n) s = .next (begins .credit (frameBytes 0x02 count [])).settle))
      ∧ (s.heldBack i = true ↔ ∃ w ∈ s.waiting, match w with
        | .departure l _ => l = x.id.link
        | .restart _ _ => True
        | .slotReset _ _ m | .faultFrame m _ | .orphanExpired m _ => m = x.id.slot
        | .abort _ _ _ | .deadline _ | .done _ _ => False))
    ∧ (∀ t rest, may → (s.slot n).sendQ = .cancel t :: rest → exec (.slotLinkSend n) s =
      .next (begins (.slotFrame (.cancel t)) (frameBytes 0x31 count [byteOfTag t])).settle)
    ∧ (∀ t rest, may → (s.slot n).sendQ = .keep t :: rest → exec (.slotLinkSend n) s =
      .next (begins (.slotFrame (.keep t)) (frameBytes 0x32 count [byteOfTag t])).settle)
    ∧ (may → (s.slot n).sendQ = [] → 1 ≤ b.owedOther → exec (.slotLinkSend n) s =
      .next (begins .credit (frameBytes 0x02 count [])).settle)
    ∧ (may → (s.slot n).sendQ = [] → b.owedOther = 0 → exec (.slotLinkSend n) s = .next s)
    ∧ (¬ may → exec (.slotLinkSend n) s = .next s)

/-- ISSUE_SENT: the entry has issue sent = yes and no command blocks, which are back in the Command Store, the ISSUE
has left the queue, and then the causes that waited for it are taken one after another in the order in which they
arose, each on the state the one before left (R97); with the departure of a link its ABORT is discarded and a DONE
follows it (R106). With nothing being sent, nothing changes. (Model's choices: logs 3, 13 and 24.) -/
def Obligations.IssueSentReturnsCommandBlocks : Prop :=
  (∀ (n : SlotIx) (s : Machine.State),
    (∀ t rest x c sp d, (s.slot n).link.sending = some (.slotFrame (.issue t)) →
      (s.slot n).sendQ = .issue t :: rest → s.exchange t.index = some x → x.phase = .active (some c) sp d →
      let u : Machine.State :=
        { (s.setEntry t.index { s.entry t.index with live := some { x with phase := .active none sp d } }).onSlot n
            fun b => { b with sendQ := rest, link := { b.link with sending := none } } with
          cmdFree := s.cmdFree + c.blocks }
      exec (.issueSent n) s = .next u.resolveWaiting.settle
      ∧ (s.waiting = [] → u.resolveWaiting = u))
    ∧ ((∀ t, (s.slot n).link.sending ≠ some (.slotFrame (.issue t))) → exec (.issueSent n) s = .next s))
  ∧ ∀ s : Machine.State,
    let answered (tag : Byte) (kind : RequestKind) (t : Machine.State) (l : CtrlIx) (r : ReplyResult) : Machine.State :=
      t.onCtrl l fun b => { b with replyQ := b.replyQ ++ [ReplyItem.reply tag kind r []] }
    -- which causes still wait
    (∀ i, s.inTransit i = true
      ↔ ∃ m t, (s.slot m).link.sending = some (.slotFrame (.issue t)) ∧ t.index = i)
    ∧ (∀ w, s.mustWait w = true ↔ ∃ m t, (s.slot m).link.sending = some (.slotFrame (.issue t)) ∧ match w with
      | .abort _ _ i | .deadline i => t.index = i
      | .done _ d => t.index = d.tag.index
      | .departure l _ => ∃ x, s.exchange t.index = some x ∧ x.id.link = l
      | .restart _ _ => ∃ x, s.exchange t.index = some x
      | .slotReset _ _ n | .faultFrame n _ | .orphanExpired n _ =>
        ∃ x, s.exchange t.index = some x ∧ x.id.slot = n)
    -- the order
    ∧ ((∀ l c, WaitingCause.departure l c ∉ s.waiting) → s.resolveWaiting = s.waiting.foldl (fun v w =>
        if w ∈ v.waiting ∧ v.mustWait w = false then (v.withWaiting (v.waiting.erase w)).takeWaiting w else v) s)
    ∧ (∀ l c tag i, s.mustWait (.departure l c) = false →
      s.waiting ∈ [[.departure l c], [.abort l tag i, .departure l c], [.departure l c, .abort l tag i]] →
      s.resolveWaiting = (s.withWaiting []).departCtrl l c)
    ∧ (∀ l c n d x, s.mustWait (.departure l c) = false → s.inTransit d.tag.index = false →
      s.exchange d.tag.index = some x → x.id.link = l →
      s.waiting ∈ [[.done n d, .departure l c], [.departure l c, .done n d]] →
      s.resolveWaiting
        = (((s.withWaiting [.done n d]).departCtrl l c).withWaiting []).takeWaiting (.done n d))
    -- what each does
    ∧ (∀ l tag i,
      (s.tagged l tag = none → s.takeWaiting (.abort l tag i) = answered tag .abort s l .unknown)
      ∧ ∀ j x, s.tagged l tag = some j → s.exchange j = some x →
        (∀ sp d, x.phase = .active none sp d → s.takeWaiting (.abort l tag i) = answered tag .abort
          ((s.setEntry j { s.entry j with live := some { x with phase := .cancelling sp d .active } }).onSlot x.id.slot
            fun b => { b with sendQ := b.sendQ ++ [SlotFrame.cancel (s.relayTag j)] }.withdraw (.keep (s.relayTag j)))
          l .taken)
        ∧ (x.isEnded = true → s.takeWaiting (.abort l tag i) = answered tag .abort s l .tooLate))
    ∧ (∀ i,
      (∀ x sp d, s.exchange i = some x → x.phase = .active none sp d → s.takeWaiting (.deadline i) =
        (s.onSlot x.id.slot fun b => { b with sendQ := b.sendQ ++ [SlotFrame.cancel (s.relayTag i)] }).endExchange i
          (.relay .timeout) true)
      ∧ ((∀ x, s.exchange i = some x → x.isEnded = true) → s.takeWaiting (.deadline i) = s))
    ∧ (∀ n d,
      (∀ x sp e, s.exchange d.tag.index = some x → x.id.slot = n → (s.entry d.tag.index).gen = d.tag.gen →
        x.phase = .active none sp e → s.takeWaiting (.done n d) = s.endExchange d.tag.index
          (if x.id.maxResp < d.payload.length then .relay .slotOverrun else .slot
            { outcome := d.outcome, status := d.status, lateAbort := false, payload := d.payload,
              space := { blocks := blockCount d.payload.length, pool := sp.pool } }) false)
      ∧ ((∀ x, s.exchange d.tag.index = some x → x.isEnded = true) →
        ((∃ o ∈ (s.slot n).orphans, o.tag = d.tag) → s.takeWaiting (.done n d) = s.onSlot n fun b =>
          { b with orphans := b.orphans.filter fun o => o.tag != d.tag }.withdraw (.cancel d.tag))
        ∧ ((∀ o ∈ (s.slot n).orphans, o.tag ≠ d.tag) → s.takeWaiting (.done n d) = s)))
    ∧ (∀ l c, s.takeWaiting (.departure l c) = s.departCtrl l c)
    ∧ (∀ n code, s.takeWaiting (.faultFrame n code) = s.faultSlot n (.faultFrame code))
    ∧ (∀ n t,
      ((s.slot n).orphan t ≠ none → s.takeWaiting (.orphanExpired n t) = (s.onSlot n fun b =>
        { b with orphans := b.orphans.filter fun o => o.tag != t }.withdraw (.cancel t)).faultSlot n .orphanExpired)
      ∧ ((s.slot n).orphan t = none → s.takeWaiting (.orphanExpired n t) = s))
    ∧ ∀ l tag n, s.isManager l = true →
      let pulse (t : Machine.State) : Machine.State :=
        (t.onSlot n fun b => { b with state := .resetting (s.now + 100000) }).clearReservation n .slotReset
      ((s.slot n).state = .online →
        s.takeWaiting (.slotReset l tag n) = answered tag .mgmt (pulse (s.endSlotWork n .slotReset)) l .ok)
      ∧ ((s.slot n).state = .offline ∨ (∃ w, (s.slot n).state = .faulted w) →
        s.takeWaiting (.slotReset l tag n) = answered tag .mgmt (pulse s) l .ok)
      ∧ ∀ p, (s.slot n).state = .resetting p →
        s.takeWaiting (.slotReset l tag n) = answered tag .mgmt s l .wrongState

/-- The last byte of a CANCEL, KEEP, CREDIT, REPLY, refusal RESP or NOTICE has left: the link is free, and the frame
leaves the head of its queue. Without such a frame on its way the command changes nothing. (Model's choices: log 3.) -/
def Obligations.SentFrameLeavesItsQueue : Prop :=
  ∀ s : Machine.State,
    (∀ n t rest, (s.slot n).link.sending = some (.slotFrame (.cancel t)) → (s.slot n).sendQ = .cancel t :: rest →
      exec (.cancelSent n) s = .next (s.onSlot n fun b =>
        { b with sendQ := rest, link := { b.link with sending := none } }).settle)
    ∧ (∀ n t rest, (s.slot n).link.sending = some (.slotFrame (.keep t)) → (s.slot n).sendQ = .keep t :: rest →
      exec (.keepSent n) s = .next (s.onSlot n fun b =>
        { b with sendQ := rest, link := { b.link with sending := none } }).settle)
    ∧ (∀ k, (s.link k).sending = some .credit →
      exec (.creditSent k) s = .next (s.onLink k fun b => { b with sending := none }).settle)
    ∧ (∀ l, (s.ctrl l).link.sending = some .reply → exec (.replySent l) s = .next (s.onCtrl l fun b =>
      { b with replyQ := b.replyQ.tail, link := { b.link with sending := none } }).settle)
    ∧ (∀ l f, (s.ctrl l).link.sending = some (.notice f) → exec (.noticeSent l) s = .next (s.onCtrl l fun b =>
      { b with noticeQ := b.noticeQ.tail, link := { b.link with sending := none } }).settle)
    ∧ (∀ n, (∀ t, (s.slot n).link.sending ≠ some (.slotFrame (.cancel t))) → exec (.cancelSent n) s = .next s)
    ∧ (∀ n, (∀ t, (s.slot n).link.sending ≠ some (.slotFrame (.keep t))) → exec (.keepSent n) s = .next s)
    ∧ (∀ k, (s.link k).sending ≠ some .credit → exec (.creditSent k) s = .next s)
    ∧ (∀ l, (s.ctrl l).link.sending ≠ some .reply → exec (.replySent l) s = .next s)
    ∧ (∀ l, (∀ f, (s.ctrl l).link.sending ≠ some (.notice f)) → exec (.noticeSent l) s = .next s)
    ∧ ∀ l, (s.ctrl l).link.sending ≠ some .resp → exec (.respSent l) s = .next s

/-- A Controller Link that may begin a frame begins the first that is available: the oldest REPLY or refusal, the
oldest notice with the lost flag, the RESP of the head of the Release Queue, a CREDIT frame where a credit is owed
for another frame. It begins none while its departure waits. (Model's choices: logs 3 and 22.) -/
def Obligations.ControllerLinkSendsInPriority : Prop :=
  ∀ (l : CtrlIx) (s : Machine.State),
    let q := s.ctrl l
    let b := q.link
    let count := min (b.owedOther + b.owedCredit) 16
    let header (what : Sending) (bytes : List Byte) : LinkBlock :=
      { b with
        held := b.held - 1, owedOther := b.owedOther - count, owedCredit := b.owedCredit - (count - b.owedOther),
        sending := some what, txLine := bytes }
    let may := b.state = .up ∧ b.sending = none ∧ (2 ≤ b.held ∨ b.held = 1 ∧ (1 ≤ b.owed ∨ b.announced = 1))
      ∧ s.departing l = false
    (∀ r rest, may → q.replyQ = r :: rest → exec (.controllerLinkSend l) s =
      .next (s.onCtrl l fun c => { c with link := header .reply (r.bytes count) }).settle)
    ∧ (∀ m rest, may → q.replyQ = [] → q.noticeQ = m :: rest → exec (.controllerLinkSend l) s =
      .next (s.onCtrl l fun c =>
        { c with link := header (.notice q.lost) (m.bytes count q.lost), lost := false }).settle)
    ∧ (∀ i rest x r, may → q.replyQ = [] → q.noticeQ = [] → q.releaseQ = i :: rest → s.exchange i = some x →
      x.phase = .released r → exec (.controllerLinkSend l) s =
      .next (s.onCtrl l fun c => { c with link := header .resp (respBytes count x.id.tag r) }).settle)
    ∧ (may → q.replyQ = [] → q.noticeQ = [] → q.releaseQ = [] → 1 ≤ b.owedOther → exec (.controllerLinkSend l) s =
      .next (s.onCtrl l fun c => { c with link := header .credit (frameBytes 0x02 count []) }).settle)
    ∧ (may → q.replyQ = [] → q.noticeQ = [] → q.releaseQ = [] → b.owedOther = 0 →
      exec (.controllerLinkSend l) s = .next s)
    ∧ (¬ may → exec (.controllerLinkSend l) s = .next s)
    -- the bytes of these frames (Table 12.1) and their codes (Table 12.3)
    ∧ (∀ (c : Nat) (tag : Byte),
      (∀ kind result data, (ReplyItem.reply tag kind result data).bytes c =
        frameBytes 0x21 c ([tag, kind.byte, result.byte, BitVec.ofNat 8 data.length] ++ data))
      ∧ (∀ code, (ReplyItem.refusal tag code).bytes c = frameBytes 0x20 c [tag, 1, code.byte])
      ∧ (∀ (m : Notice) (lost : Bool), m.bytes c lost = frameBytes 0x22 c ([m.id, m.kind.byte, m.subject, m.cause.byte,
          if lost then 1 else 0, BitVec.ofNat 8 m.data.length] ++ m.data))
      ∧ (∀ code, respBytes c tag (.relay code) = frameBytes 0x20 c [tag, 1, code.byte])
      ∧ ∀ a : SlotAnswer, respBytes c tag (.slot a) = frameBytes 0x20 c ([tag, 0, (match a.outcome with
          | .completed => 0
          | .cancelled => 1), a.status, if a.lateAbort then 1 else 0, BitVec.ofNat 8 (a.payload.length / 256),
          BitVec.ofNat 8 a.payload.length] ++ a.payload))
    ∧ [RelayCode.badLength, .noSlot, .noAccess, .slotDisabled, .slotUnavailable, .reserved, .tagInUse, .openLimit,
        .tableFull, .queueFull, .storeFull, .aborted, .timeout, .slotFault, .slotReset, .slotOverrun, .preempted,
        .restarted].map RelayCode.byte
      = [0x01, 0x02, 0x03, 0x04, 0x05, 0x06, 0x07, 0x08, 0x09, 0x0A, 0x0B, 0x10, 0x11, 0x12, 0x13, 0x14, 0x15, 0x16]
    ∧ [ReplyResult.ok, .taken, .unknown, .tooLate, .repeated, .granted, .queued, .renewed, .dropped, .notHolder, .noSlot,
        .noAccess, .notManager, .badRequest, .badValue, .noManager, .twoManagers, .managerDown, .wrongState,
        .noticeUnknown].map ReplyResult.byte
      = [0x00, 0x01, 0x02, 0x03, 0x04, 0x05, 0x06, 0x07, 0x08, 0x09, 0x0A, 0x0B, 0x0C, 0x0D, 0x0E, 0x0F, 0x10, 0x11,
        0x12, 0x13]
    ∧ [NoticeKind.resvGranted, .resvRevoked, .waitEnded, .tableActivated, .slotFault, .slotEscalated, .slotOnline,
        .linkDown, .linkUp].map NoticeKind.byte = [0x01, 0x02, 0x03, 0x04, 0x05, 0x06, 0x07, 0x08, 0x09]
    ∧ [NoticeCause.none, .lease, .slotReset, .restart, .access, .faultFrame, .linkLost, .orphanExpired, .lineLost,
        .creditViolation, .creditStall, .partnerRestart].map NoticeCause.byte
      = [0x00, 0x01, 0x02, 0x03, 0x04, 0x05, 0x06, 0x07, 0x08, 0x09, 0x0A, 0x0B]
    ∧ [RequestKind.abort, .resv, .mgmt].map RequestKind.byte = [0x01, 0x02, 0x03]

/-- RESP_SENT: the entry at the head of the Release Queue is FREE with its generation advanced, out of every list,
and its response blocks are back in the pool they came from. -/
def Obligations.RespSentFreesTheEntry : Prop :=
  ∀ (l : CtrlIx) (s : Machine.State) (i : XtIx) (rest : List XtIx) (x : Exchange) (r : Response),
    (s.ctrl l).link.sending = some .resp → (s.ctrl l).releaseQ = i :: rest → s.exchange i = some x →
    x.phase = .released r → x.id.link = l → s.collectionsOk →
    ∃ t, exec (.respSent l) s = .next t
      ∧ t.entry i = { gen := (s.entry i).gen + 1, live := none } ∧ (∀ j, j ≠ i → t.entry j = s.entry j)
      ∧ t.admissionOrder = s.admissionOrder.filter (· != i)
      ∧ (t.ctrl l).releaseQ = rest ∧ (t.ctrl l).orderList = (s.ctrl l).orderList
      ∧ (t.ctrl l).link.sending = none
      ∧ (match r with
        | .slot a => t.generalFree = s.generalFree + (if a.space.pool = .general then a.space.blocks else 0)
            ∧ ∀ l', t.reserve l' = s.reserve l' + (if l' = l ∧ a.space.pool = .reserve then a.space.blocks else 0)
        | .relay _ => t.generalFree = s.generalFree ∧ ∀ l', t.reserve l' = s.reserve l')
      ∧ (∀ l', l' ≠ l → (t.ctrl l').releaseQ = (s.ctrl l').releaseQ ∧ (t.ctrl l').replyQ = (s.ctrl l').replyQ)
      ∧ (∀ n, (t.slot n).queue = (s.slot n).queue ∧ (t.slot n).orphans = (s.slot n).orphans
          ∧ (t.slot n).resv = (s.slot n).resv ∧ (t.slot n).state = (s.slot n).state)
      ∧ t.cmdFree = s.cmdFree ∧ t.noticeId = s.noticeId ∧ t.tables = s.tables

/-! ## Frames from a card -/

/-- PARK on an ACTIVE entry of the slot with issue sent = yes and the tag's generation: below the parked limit it
becomes PARKED with a deadline one parked deadline ahead and a waiting KEEP withdrawn, at the limit a KEEP is queued
unless there is one. Every other PARK is discarded. -/
def Obligations.ParkParksOrKeeps : Prop :=
  ∀ (n : SlotIx) (t : RelayTag) (s : Machine.State), s.slotTakes n (.park t) →
    let u := s.tookSlotFrame n
    (∀ x sp d, s.exchange t.index = some x → x.phase = .active none sp d → x.id.slot = n →
      (s.entry t.index).gen = t.gen →
      (s.parkedCount n < (s.slotConfig n).parkedLimit → exec (.park n) s =
        .next (((u.setEntry t.index { u.entry t.index with live := some { x with
          phase := .parked sp (s.now + (s.slotConfig n).parkedDeadline * 5000000) } }).onSlot n fun b =>
            b.withdraw (.keep t))).settle)
      ∧ ((s.slotConfig n).parkedLimit ≤ s.parkedCount n → SlotFrame.keep t ∉ (s.slot n).sendQ → exec (.park n) s =
        .next (u.onSlot n fun b => { b with sendQ := b.sendQ ++ [SlotFrame.keep t] }).settle)
      ∧ ((s.slotConfig n).parkedLimit ≤ s.parkedCount n → SlotFrame.keep t ∈ (s.slot n).sendQ →
        exec (.park n) s = .next u.settle))
    ∧ ((∀ x sp d, s.exchange t.index = some x → x.phase = .active none sp d → x.id.slot = n →
        (s.entry t.index).gen ≠ t.gen) → exec (.park n) s = .next u.settle)

/-- DONE on an ACTIVE, PARKED or CANCELLING entry of the slot with the tag's generation ends it: SLOT_OVERRUN above
the maximum response length, ABORTED when CANCELLING and cancelled, else with the card's answer; it waits while the
entry's ISSUE is in transit. Else it removes the orphan of its tag, or is discarded. -/
def Obligations.DoneEndsOrRemovesAnOrphan : Prop :=
  ∀ (n : SlotIx) (d : DoneFrame) (s : Machine.State), s.slotTakes n (.done d) →
    let u := s.tookSlotFrame n
    let i := d.tag.index
    (∀ x sp, s.exchange i = some x → x.id.slot = n → (s.entry i).gen = d.tag.gen → x.isEnded = false →
      x.respSpace = some sp →
      let answer (late : Bool) : Response := .slot
        { outcome := d.outcome, status := d.status, lateAbort := late, payload := d.payload,
          space := { blocks := blockCount d.payload.length, pool := sp.pool } }
      let ends (r : Response) : Prop := exec (.done n) s = .next (u.endExchange i r false).settle
      (s.inTransit i = true → exec (.done n) s = .next (u.withWaiting (u.waiting ++ [WaitingCause.done n d])).settle)
      ∧ (s.inTransit i = false →
        (x.id.maxResp < d.payload.length → ends (.relay .slotOverrun))
        ∧ (d.payload.length ≤ x.id.maxResp →
          (∀ c e, x.phase = .active c sp e → ends (answer false))
          ∧ (∀ e, x.phase = .parked sp e → ends (answer false))
          ∧ (∀ e p, x.phase = .cancelling sp e p → d.outcome = .cancelled → ends (.relay .aborted))
          ∧ ∀ e p, x.phase = .cancelling sp e p → d.outcome = .completed → ends (answer true))))
    ∧ ((∀ x, s.exchange i = some x → x.id.slot = n → (s.entry i).gen = d.tag.gen → x.respSpace.isSome = true →
        x.isEnded = true) →
      ((∃ o ∈ (s.slot n).orphans, o.tag = d.tag) → exec (.done n) s = .next (u.onSlot n fun b =>
        { b with orphans := b.orphans.filter fun o => o.tag != d.tag }.withdraw (.cancel d.tag)).settle)
      ∧ ((∀ o ∈ (s.slot n).orphans, o.tag ≠ d.tag) → exec (.done n) s = .next u.settle))

/-- FAULT is taken as the cause FAULT_FRAME, or waits while an ISSUE of the slot is in transit. A cause finds an ONLINE
slot, or is discarded: FAULTED with its cause, every unended exchange ended with SLOT_FAULT (ABORTED when CANCELLING),
no orphan, an empty Slot Send Queue, SLOT_FAULT to the manager, its id awaited for one acknowledge window. A SLOT_RESET
ends the slot's work in the same way with its own code. (Model's choices: log 15.) -/
def Obligations.FaultTakesTheSlotOutOfService : Prop :=
  (∀ (n : SlotIx) (code : Byte) (s : Machine.State), s.slotTakes n (.fault code) →
    let u := s.tookSlotFrame n
    (s.transitReached (.faultFrame n code) = true →
      exec (.fault n) s = .next (u.withWaiting (u.waiting ++ [WaitingCause.faultFrame n code])).settle)
    ∧ (s.transitReached (.faultFrame n code) = false → (s.slot n).state ≠ .online →
      exec (.fault n) s = .next u.settle)
    ∧ (s.transitReached (.faultFrame n code) = false → (s.slot n).state = .online →
      exec (.fault n) s = .next (u.faultSlot n (.faultFrame code)).settle))
  ∧ ∀ (n : SlotIx) (s : Machine.State),
    (∀ cause, (s.slot n).state ≠ .online → s.faultSlot n cause = s)
    ∧ (∀ cause word data,
      ((∃ code, cause = .faultFrame code ∧ word = .faultFrame ∧ data = [code])
        ∨ cause = .linkLost ∧ word = .linkLost ∧ data = []
        ∨ cause = .orphanExpired ∧ word = .orphanExpired ∧ data = []) →
      (s.slot n).state = .online →
      s.faultSlot n cause = ((s.endSlotWork n .slotFault).onSlot n fun b =>
        { b with
          lastFault := cause
          state := .faulted (some ⟨s.noticeId, s.now + s.active.params.ackWindow * 500000⟩) }).notifyManager
            .slotFault (BitVec.ofNat 8 n.val) word data
      ∧ ((s.faultSlot n cause).slot n).resv = (s.slot n).resv
      ∧ (s.faultSlot n cause).noticeId = s.noticeId + 1
      ∧ ∀ l, s.manager = some l → (s.ctrl l).noticeQ.length < 16 → ((s.faultSlot n cause).ctrl l).noticeQ =
          (s.ctrl l).noticeQ ++ [⟨s.noticeId, .slotFault, BitVec.ofNat 8 n.val, word, data⟩])
    ∧ ∀ code, s.admissionOk →
      let t := s.endSlotWork n code
      t.slot n = { s.slot n with queue := (t.slot n).queue, orphans := [], sendQ := [] }
      ∧ (∀ m, m ≠ n → t.slot m = s.slot m)
      ∧ (∀ i x, s.exchange i = some x → x.id.slot = n → x.isEnded = false →
          i ∉ (t.slot n).queue
          ∧ ∃ r, r = (match x.phase with
              | .cancelling _ _ _ => Response.relay .aborted
              | _ => Response.relay code)
            ∧ (t.exchange i = some { x with phase := .held r } ∨ t.exchange i = some { x with phase := .released r }))
      ∧ (∀ i x, s.exchange i = some x → x.id.slot ≠ n ∨ x.isEnded = true →
          ∃ y, t.exchange i = some y ∧ x.sameOrReleased y)
      ∧ (∀ i, s.exchange i = none → t.exchange i = none) ∧ (∀ i, (t.entry i).gen = (s.entry i).gen)
      ∧ (∀ l, t.ctrl l = { s.ctrl l with orderList := (t.ctrl l).orderList, releaseQ := (t.ctrl l).releaseQ })
      ∧ s.sameTotals t ∧ t.noticeId = s.noticeId ∧ t.waiting = s.waiting ∧ t.pending = s.pending
      ∧ t.tables = s.tables ∧ t.now = s.now ∧ t.admissionOrder = s.admissionOrder

/-! ## Timers -/

/-- A deadline expires: in ACTIVE with issue sent = yes and in PARKED the entry ends TIMEOUT with a CANCEL and an
orphan, in ACTIVE with issue sent = no TIMEOUT without, in CANCELLING ABORTED with an orphan and no new CANCEL; in
transit it waits. (Model's choices: log 4.) -/
def Obligations.DeadlineExpiryEndsTheEntry : Prop :=
  ∀ (i : XtIx) (s : Machine.State) (x : Exchange) (e : Nat),
    s.exchange i = some x → x.deadline = some e → WaitingCause.deadline i ∉ s.waiting → s.canExpire e →
    let u := s.atTime (max s.now e)
    let cancelled : Machine.State := u.onSlot x.id.slot fun b =>
      { b with sendQ := b.sendQ ++ [SlotFrame.cancel (s.relayTag i)] }
    (s.inTransit i = true →
      exec (.deadlineExpiry i) s = .next (u.withWaiting (u.waiting ++ [WaitingCause.deadline i])).settle)
    ∧ (s.inTransit i = false →
      (∀ sp d, x.phase = .active none sp d ∨ x.phase = .parked sp d → exec (.deadlineExpiry i) s =
        .next (cancelled.endExchange i (.relay .timeout) true).settle)
      ∧ (∀ c sp d, x.phase = .active (some c) sp d → exec (.deadlineExpiry i) s =
        .next (u.endExchange i (.relay .timeout) false).settle)
      ∧ (∀ sp d p, x.phase = .cancelling sp d p → exec (.deadlineExpiry i) s =
        .next (u.endExchange i (.relay .aborted) true).settle))

/-- An orphan's expiry removes it and faults its slot with ORPHAN_EXPIRED, unless an ISSUE of the slot is in
transit, when it waits; without the orphan nothing changes. (Model's choices: logs 3 and 4.) -/
def Obligations.OrphanExpiryFaultsTheSlot : Prop :=
  ∀ (n : SlotIx) (t : RelayTag) (s : Machine.State),
    (∀ o, (s.slot n).orphan t = some o → WaitingCause.orphanExpired n t ∉ s.waiting → s.canExpire o.expiry →
      let u := s.atTime (max s.now o.expiry)
      (s.transitReached (.orphanExpired n t) = true → exec (.orphanExpiry n t) s =
        .next (u.withWaiting (u.waiting ++ [WaitingCause.orphanExpired n t])).settle)
      ∧ (s.transitReached (.orphanExpired n t) = false → exec (.orphanExpiry n t) s =
        .next ((u.onSlot n fun b =>
          { b with orphans := b.orphans.filter fun o => o.tag != t }.withdraw (.cancel t)).faultSlot n
            .orphanExpired).settle))
    ∧ ((s.slot n).orphan t = none → exec (.orphanExpiry n t) s = .next s)

/-- A lease expires: the holder is told RESV_REVOKED with cause LEASE and the slot is handed over. Without a running
lease nothing changes. (Model's choices: logs 3 and 4.) -/
def Obligations.LeaseExpiryRevokesTheHolder : Prop :=
  ∀ (n : SlotIx) (s : Machine.State),
    (∀ e l, (s.slot n).resv.lease = some e → (s.slot n).resv.holder = some l → s.canExpire e →
      exec (.leaseExpiry n) s = .next (((s.atTime (max s.now e)).notify l .resvRevoked (slotByte n) .lease
        []).handOver n).settle)
    ∧ ((s.slot n).resv.lease = none → exec (.leaseExpiry n) s = .next s)

/-- An acknowledge window expires: the slot is RESETTING with its output low for 2 ms, SLOT_ESCALATED goes to the
manager and then the reservation is cleared. A pulse ends: the slot is OFFLINE with its output released. Without the
timer nothing changes. (Model's choices: logs 3 and 4.) -/
def Obligations.WindowExpiryEscalatesAndPulseEnds : Prop :=
  ∀ (n : SlotIx) (s : Machine.State),
    (∀ a, (s.slot n).state = .faulted (some a) → s.canExpire a.window →
      let now := max s.now a.window
      exec (.acknowledgeWindowExpiry n) s = .next ((((s.atTime now).onSlot n fun b =>
        { b with state := .resetting (now + 100000) }).notifyManager .slotEscalated (slotByte n) .none
          []).clearReservation n .slotReset).settle)
    ∧ (∀ p, (s.slot n).state = .resetting p → s.canExpire p →
      exec (.pulseEnd n) s = .next ((s.atTime (max s.now p)).onSlot n fun b =>
        { b with state := .offline }).settle)
    ∧ ((∀ a, (s.slot n).state ≠ .faulted (some a)) → exec (.acknowledgeWindowExpiry n) s = .next s)
    ∧ ((∀ p, (s.slot n).state ≠ .resetting p) → exec (.pulseEnd n) s = .next s)

/-! ## Invariants -/

/-- Every invariant below holds at reset, whatever the strap. -/
def Obligations.InvariantsHoldAtReset : Prop :=
  ∀ strap : CtrlIx, let s := Machine.State.resetWith strap
    s.linksOk ∧ s.tablesOk ∧ s.tagsOk ∧ s.collectionsOk ∧ s.reservationsOk ∧ s.outOfServiceOk ∧ s.storesOk
    ∧ s.orderLawOk ∧ s.orphansOk ∧ s.positionsOk

/-- Every step keeps each link within its bounds, its stall timer under its condition, and each Notice Queue within
its 16 places. (Model's choices: log 10.) -/
def Obligations.StepKeepsLinks : Prop :=
  ∀ s t : Machine.State, s.linksOk → step s = .next t → t.linksOk

/-- Every step keeps both banks within range and exactly one manager in the active one. -/
def Obligations.StepKeepsTables : Prop :=
  ∀ s t : Machine.State, s.tablesOk → step s = .next t → t.tablesOk

/-- Every step keeps the controller tags of one link unique among its live entries. -/
def Obligations.StepKeepsTagsUnique : Prop :=
  ∀ s t : Machine.State, s.tagsOk → step s = .next t → t.tagsOk

/-- Every step keeps the admission order, the Slot Queues, the Order Lists and the Release Queues holding exactly the
exchanges they should, in admission order; and with them the order law of R84: ordered responses leave in admission
order. -/
def Obligations.StepKeepsCollections : Prop :=
  ∀ s t : Machine.State, s.collectionsOk → step s = .next t →
    t.collectionsOk ∧ (s.orderLawOk → t.orderLawOk)

/-- Every step keeps the reservation records in order, and a reserved slot free of other links' QUEUED ACTIONs. -/
def Obligations.StepKeepsReservations : Prop :=
  ∀ s t : Machine.State, s.collectionsOk → s.reservationsOk → step s = .next t → t.reservationsOk

/-- Every step keeps a slot that is not ONLINE free of unended exchanges and orphans (R127). And it keeps at most one
orphan for each index and none for the index of an unended exchange (R102), and at most 8 window positions and 16
parked ones in use at a slot (R43, R44). -/
def Obligations.StepKeepsOutOfServiceSlotsEmpty : Prop :=
  ∀ s t : Machine.State, s.collectionsOk → step s = .next t →
    (s.outOfServiceOk → t.outOfServiceOk) ∧ (s.orphansOk → t.orphansOk)
    ∧ (s.tablesOk → s.positionsOk → t.positionsOk)

/-- Every step keeps the sum of free and held blocks of every pool, and at most one entry with blocks of a link's
reserve, in a state whose collections hold what they should. -/
def Obligations.StepKeepsStoreSums : Prop :=
  ∀ s t : Machine.State, s.collectionsOk → s.storesOk → step s = .next t → t.storesOk
end

