-- ==== Sys2Proof/Laws/Frames.lean ====
section
/-! SUPPORT. A frame the layout gives is read back as it was built. -/

namespace Sys2Proof.Machine

open Sys2Proof

theorem frameBytes_take (kind : Byte) (count : Nat) (body : List Byte) :
    (frameBytes kind count body).take ((frameBytes kind count body).length - 2)
      = kind :: byteOf count :: (be16 body.length ++ body) := by
  simp [frameBytes, be16]

theorem frameBytes_drop (kind : Byte) (count : Nat) (body : List Byte) :
    (frameBytes kind count body).drop ((frameBytes kind count body).length - 2)
      = be16 (crc16 (kind :: byteOf count :: (be16 body.length ++ body))).toNat := by
  simp [frameBytes, be16]

theorem nat16_bytes (n : Nat) (h : n < 65536) : nat16 (byteOf (n / 256)) (byteOf n) = n := by
  simp [nat16, byteOf]; omega

/-- The CRC of a built frame is good, and its parts are those it was built from. -/
theorem openFrame_frameBytes (kind : Byte) (count : Nat) (body : List Byte) (hc : count < 256)
    (hb : body.length < 65536) :
    openFrame (frameBytes kind count body) = some (kind, count, body.length, body) := by
  have h := nat16_bytes body.length hb
  simp only [openFrame, frameBytes_take, frameBytes_drop, if_true]
  simp [be16, byteOf, Nat.mod_eq_of_lt hc]
  simpa [byteOf] using h

/-- A built frame whose body the link keeps is kept with its count. -/
theorem checkFrame_kept (k : LinkId) (kind : Byte) (count : Nat) (body : List Byte) (f : RxFrame) (hc : count ≤ 16)
    (hb : body.length < 65536) (hk : kind ≠ creditKind) (hp : parseBody k kind body = some f) :
    checkFrame k (frameBytes kind count body) = .kept count f := by
  simp [checkFrame, openFrame_frameBytes kind count body (by omega) hb, Config.maxCreditReturn, hk, hp]; omega

theorem boolOfByte_boolByte (b : Bool) : boolOfByte (boolByte b) = some b := by cases b <;> rfl

theorem slotOfByte_none {a : Byte} (h : 8 ≤ a.toNat) : slotOfByte a = none := by simp [slotOfByte]; omega

theorem indexOfByte_none {a : Byte} (h : 64 ≤ a.toNat) : indexOfByte a = none := by simp [indexOfByte]; omega

/-- A byte is a numeral exactly when its number is. -/
theorem byte_eq_iff (b : Byte) (k : Nat) (h : k < 256) : b = BitVec.ofNat 8 k ↔ b.toNat = k := by
  constructor
  · rintro rfl; simp; omega
  · intro h'; apply BitVec.eq_of_toNat_eq; simp; omega

end Sys2Proof.Machine
end

