-- ==== Sys2Proof/Laws/State.lean ====
section
/-! SUPPORT. What each write of one part of the state does to every field and to every accessor. -/

namespace Sys2Proof.Machine

open Sys2Proof

/-! ## Fields -/

@[simp] theorem setEntry_now (s : State) (i : XtIx) (e : Entry) : (s.setEntry i e).now = s.now := rfl
@[simp] theorem setEntry_pending (s : State) (i : XtIx) (e : Entry) : (s.setEntry i e).pending = s.pending := rfl
@[simp] theorem setEntry_admissionOrder (s : State) (i : XtIx) (e : Entry) : (s.setEntry i e).admissionOrder = s.admissionOrder := rfl
@[simp] theorem setEntry_admissionCounter (s : State) (i : XtIx) (e : Entry) : (s.setEntry i e).admissionCounter = s.admissionCounter := rfl
@[simp] theorem setEntry_rotation (s : State) (i : XtIx) (e : Entry) : (s.setEntry i e).rotation = s.rotation := rfl
@[simp] theorem setEntry_cmdFree (s : State) (i : XtIx) (e : Entry) : (s.setEntry i e).cmdFree = s.cmdFree := rfl
@[simp] theorem setEntry_generalFree (s : State) (i : XtIx) (e : Entry) : (s.setEntry i e).generalFree = s.generalFree := rfl
@[simp] theorem setEntry_reserveFree (s : State) (i : XtIx) (e : Entry) : (s.setEntry i e).reserveFree = s.reserveFree := rfl
@[simp] theorem setEntry_ctrls (s : State) (i : XtIx) (e : Entry) : (s.setEntry i e).ctrls = s.ctrls := rfl
@[simp] theorem setEntry_slots (s : State) (i : XtIx) (e : Entry) : (s.setEntry i e).slots = s.slots := rfl
@[simp] theorem setEntry_staged (s : State) (i : XtIx) (e : Entry) : (s.setEntry i e).staged = s.staged := rfl
@[simp] theorem setEntry_active (s : State) (i : XtIx) (e : Entry) : (s.setEntry i e).active = s.active := rfl
@[simp] theorem setEntry_epoch (s : State) (i : XtIx) (e : Entry) : (s.setEntry i e).epoch = s.epoch := rfl
@[simp] theorem setEntry_noticeId (s : State) (i : XtIx) (e : Entry) : (s.setEntry i e).noticeId = s.noticeId := rfl
@[simp] theorem setEntry_waiting (s : State) (i : XtIx) (e : Entry) : (s.setEntry i e).waiting = s.waiting := rfl

@[simp] theorem onCtrl_now (s : State) (l : CtrlIx) (f : CtrlBlock → CtrlBlock) : (s.onCtrl l f).now = s.now := rfl
@[simp] theorem onCtrl_pending (s : State) (l : CtrlIx) (f : CtrlBlock → CtrlBlock) : (s.onCtrl l f).pending = s.pending := rfl
@[simp] theorem onCtrl_entries (s : State) (l : CtrlIx) (f : CtrlBlock → CtrlBlock) : (s.onCtrl l f).entries = s.entries := rfl
@[simp] theorem onCtrl_admissionOrder (s : State) (l : CtrlIx) (f : CtrlBlock → CtrlBlock) : (s.onCtrl l f).admissionOrder = s.admissionOrder := rfl
@[simp] theorem onCtrl_admissionCounter (s : State) (l : CtrlIx) (f : CtrlBlock → CtrlBlock) : (s.onCtrl l f).admissionCounter = s.admissionCounter := rfl
@[simp] theorem onCtrl_rotation (s : State) (l : CtrlIx) (f : CtrlBlock → CtrlBlock) : (s.onCtrl l f).rotation = s.rotation := rfl
@[simp] theorem onCtrl_cmdFree (s : State) (l : CtrlIx) (f : CtrlBlock → CtrlBlock) : (s.onCtrl l f).cmdFree = s.cmdFree := rfl
@[simp] theorem onCtrl_generalFree (s : State) (l : CtrlIx) (f : CtrlBlock → CtrlBlock) : (s.onCtrl l f).generalFree = s.generalFree := rfl
@[simp] theorem onCtrl_reserveFree (s : State) (l : CtrlIx) (f : CtrlBlock → CtrlBlock) : (s.onCtrl l f).reserveFree = s.reserveFree := rfl
@[simp] theorem onCtrl_slots (s : State) (l : CtrlIx) (f : CtrlBlock → CtrlBlock) : (s.onCtrl l f).slots = s.slots := rfl
@[simp] theorem onCtrl_staged (s : State) (l : CtrlIx) (f : CtrlBlock → CtrlBlock) : (s.onCtrl l f).staged = s.staged := rfl
@[simp] theorem onCtrl_active (s : State) (l : CtrlIx) (f : CtrlBlock → CtrlBlock) : (s.onCtrl l f).active = s.active := rfl
@[simp] theorem onCtrl_epoch (s : State) (l : CtrlIx) (f : CtrlBlock → CtrlBlock) : (s.onCtrl l f).epoch = s.epoch := rfl
@[simp] theorem onCtrl_noticeId (s : State) (l : CtrlIx) (f : CtrlBlock → CtrlBlock) : (s.onCtrl l f).noticeId = s.noticeId := rfl
@[simp] theorem onCtrl_waiting (s : State) (l : CtrlIx) (f : CtrlBlock → CtrlBlock) : (s.onCtrl l f).waiting = s.waiting := rfl

@[simp] theorem onSlot_now (s : State) (n : SlotIx) (f : SlotBlock → SlotBlock) : (s.onSlot n f).now = s.now := rfl
@[simp] theorem onSlot_pending (s : State) (n : SlotIx) (f : SlotBlock → SlotBlock) : (s.onSlot n f).pending = s.pending := rfl
@[simp] theorem onSlot_entries (s : State) (n : SlotIx) (f : SlotBlock → SlotBlock) : (s.onSlot n f).entries = s.entries := rfl
@[simp] theorem onSlot_admissionOrder (s : State) (n : SlotIx) (f : SlotBlock → SlotBlock) : (s.onSlot n f).admissionOrder = s.admissionOrder := rfl
@[simp] theorem onSlot_admissionCounter (s : State) (n : SlotIx) (f : SlotBlock → SlotBlock) : (s.onSlot n f).admissionCounter = s.admissionCounter := rfl
@[simp] theorem onSlot_rotation (s : State) (n : SlotIx) (f : SlotBlock → SlotBlock) : (s.onSlot n f).rotation = s.rotation := rfl
@[simp] theorem onSlot_cmdFree (s : State) (n : SlotIx) (f : SlotBlock → SlotBlock) : (s.onSlot n f).cmdFree = s.cmdFree := rfl
@[simp] theorem onSlot_generalFree (s : State) (n : SlotIx) (f : SlotBlock → SlotBlock) : (s.onSlot n f).generalFree = s.generalFree := rfl
@[simp] theorem onSlot_reserveFree (s : State) (n : SlotIx) (f : SlotBlock → SlotBlock) : (s.onSlot n f).reserveFree = s.reserveFree := rfl
@[simp] theorem onSlot_ctrls (s : State) (n : SlotIx) (f : SlotBlock → SlotBlock) : (s.onSlot n f).ctrls = s.ctrls := rfl
@[simp] theorem onSlot_staged (s : State) (n : SlotIx) (f : SlotBlock → SlotBlock) : (s.onSlot n f).staged = s.staged := rfl
@[simp] theorem onSlot_active (s : State) (n : SlotIx) (f : SlotBlock → SlotBlock) : (s.onSlot n f).active = s.active := rfl
@[simp] theorem onSlot_epoch (s : State) (n : SlotIx) (f : SlotBlock → SlotBlock) : (s.onSlot n f).epoch = s.epoch := rfl
@[simp] theorem onSlot_noticeId (s : State) (n : SlotIx) (f : SlotBlock → SlotBlock) : (s.onSlot n f).noticeId = s.noticeId := rfl
@[simp] theorem onSlot_waiting (s : State) (n : SlotIx) (f : SlotBlock → SlotBlock) : (s.onSlot n f).waiting = s.waiting := rfl

@[simp] theorem setReserve_now (s : State) (l : CtrlIx) (k : Nat) : (s.setReserve l k).now = s.now := rfl
@[simp] theorem setReserve_pending (s : State) (l : CtrlIx) (k : Nat) : (s.setReserve l k).pending = s.pending := rfl
@[simp] theorem setReserve_entries (s : State) (l : CtrlIx) (k : Nat) : (s.setReserve l k).entries = s.entries := rfl
@[simp] theorem setReserve_admissionOrder (s : State) (l : CtrlIx) (k : Nat) : (s.setReserve l k).admissionOrder = s.admissionOrder := rfl
@[simp] theorem setReserve_admissionCounter (s : State) (l : CtrlIx) (k : Nat) : (s.setReserve l k).admissionCounter = s.admissionCounter := rfl
@[simp] theorem setReserve_rotation (s : State) (l : CtrlIx) (k : Nat) : (s.setReserve l k).rotation = s.rotation := rfl
@[simp] theorem setReserve_cmdFree (s : State) (l : CtrlIx) (k : Nat) : (s.setReserve l k).cmdFree = s.cmdFree := rfl
@[simp] theorem setReserve_generalFree (s : State) (l : CtrlIx) (k : Nat) : (s.setReserve l k).generalFree = s.generalFree := rfl
@[simp] theorem setReserve_ctrls (s : State) (l : CtrlIx) (k : Nat) : (s.setReserve l k).ctrls = s.ctrls := rfl
@[simp] theorem setReserve_slots (s : State) (l : CtrlIx) (k : Nat) : (s.setReserve l k).slots = s.slots := rfl
@[simp] theorem setReserve_staged (s : State) (l : CtrlIx) (k : Nat) : (s.setReserve l k).staged = s.staged := rfl
@[simp] theorem setReserve_active (s : State) (l : CtrlIx) (k : Nat) : (s.setReserve l k).active = s.active := rfl
@[simp] theorem setReserve_epoch (s : State) (l : CtrlIx) (k : Nat) : (s.setReserve l k).epoch = s.epoch := rfl
@[simp] theorem setReserve_noticeId (s : State) (l : CtrlIx) (k : Nat) : (s.setReserve l k).noticeId = s.noticeId := rfl
@[simp] theorem setReserve_waiting (s : State) (l : CtrlIx) (k : Nat) : (s.setReserve l k).waiting = s.waiting := rfl

@[simp] theorem onLink_now (s : State) (k : LinkId) (f : LinkBlock → LinkBlock) : (s.onLink k f).now = s.now := by cases k <;> rfl
@[simp] theorem onLink_pending (s : State) (k : LinkId) (f : LinkBlock → LinkBlock) : (s.onLink k f).pending = s.pending := by cases k <;> rfl
@[simp] theorem onLink_entries (s : State) (k : LinkId) (f : LinkBlock → LinkBlock) : (s.onLink k f).entries = s.entries := by cases k <;> rfl
@[simp] theorem onLink_admissionOrder (s : State) (k : LinkId) (f : LinkBlock → LinkBlock) : (s.onLink k f).admissionOrder = s.admissionOrder := by cases k <;> rfl
@[simp] theorem onLink_admissionCounter (s : State) (k : LinkId) (f : LinkBlock → LinkBlock) : (s.onLink k f).admissionCounter = s.admissionCounter := by cases k <;> rfl
@[simp] theorem onLink_rotation (s : State) (k : LinkId) (f : LinkBlock → LinkBlock) : (s.onLink k f).rotation = s.rotation := by cases k <;> rfl
@[simp] theorem onLink_cmdFree (s : State) (k : LinkId) (f : LinkBlock → LinkBlock) : (s.onLink k f).cmdFree = s.cmdFree := by cases k <;> rfl
@[simp] theorem onLink_generalFree (s : State) (k : LinkId) (f : LinkBlock → LinkBlock) : (s.onLink k f).generalFree = s.generalFree := by cases k <;> rfl
@[simp] theorem onLink_reserveFree (s : State) (k : LinkId) (f : LinkBlock → LinkBlock) : (s.onLink k f).reserveFree = s.reserveFree := by cases k <;> rfl
@[simp] theorem onLink_staged (s : State) (k : LinkId) (f : LinkBlock → LinkBlock) : (s.onLink k f).staged = s.staged := by cases k <;> rfl
@[simp] theorem onLink_active (s : State) (k : LinkId) (f : LinkBlock → LinkBlock) : (s.onLink k f).active = s.active := by cases k <;> rfl
@[simp] theorem onLink_epoch (s : State) (k : LinkId) (f : LinkBlock → LinkBlock) : (s.onLink k f).epoch = s.epoch := by cases k <;> rfl
@[simp] theorem onLink_noticeId (s : State) (k : LinkId) (f : LinkBlock → LinkBlock) : (s.onLink k f).noticeId = s.noticeId := by cases k <;> rfl
@[simp] theorem onLink_waiting (s : State) (k : LinkId) (f : LinkBlock → LinkBlock) : (s.onLink k f).waiting = s.waiting := by cases k <;> rfl

@[simp] theorem atTime_now (s : State) (t : Nat) : (s.atTime t).now = t := rfl
@[simp] theorem atTime_pending (s : State) (t : Nat) : (s.atTime t).pending = s.pending := rfl
@[simp] theorem atTime_entries (s : State) (t : Nat) : (s.atTime t).entries = s.entries := rfl
@[simp] theorem atTime_admissionOrder (s : State) (t : Nat) : (s.atTime t).admissionOrder = s.admissionOrder := rfl
@[simp] theorem atTime_admissionCounter (s : State) (t : Nat) : (s.atTime t).admissionCounter = s.admissionCounter := rfl
@[simp] theorem atTime_rotation (s : State) (t : Nat) : (s.atTime t).rotation = s.rotation := rfl
@[simp] theorem atTime_cmdFree (s : State) (t : Nat) : (s.atTime t).cmdFree = s.cmdFree := rfl
@[simp] theorem atTime_generalFree (s : State) (t : Nat) : (s.atTime t).generalFree = s.generalFree := rfl
@[simp] theorem atTime_reserveFree (s : State) (t : Nat) : (s.atTime t).reserveFree = s.reserveFree := rfl
@[simp] theorem atTime_ctrls (s : State) (t : Nat) : (s.atTime t).ctrls = s.ctrls := rfl
@[simp] theorem atTime_slots (s : State) (t : Nat) : (s.atTime t).slots = s.slots := rfl
@[simp] theorem atTime_staged (s : State) (t : Nat) : (s.atTime t).staged = s.staged := rfl
@[simp] theorem atTime_active (s : State) (t : Nat) : (s.atTime t).active = s.active := rfl
@[simp] theorem atTime_epoch (s : State) (t : Nat) : (s.atTime t).epoch = s.epoch := rfl
@[simp] theorem atTime_noticeId (s : State) (t : Nat) : (s.atTime t).noticeId = s.noticeId := rfl
@[simp] theorem atTime_waiting (s : State) (t : Nat) : (s.atTime t).waiting = s.waiting := rfl

@[simp] theorem withWaiting_now (s : State) (ws : List WaitingCause) : (s.withWaiting ws).now = s.now := rfl
@[simp] theorem withWaiting_pending (s : State) (ws : List WaitingCause) : (s.withWaiting ws).pending = s.pending := rfl
@[simp] theorem withWaiting_entries (s : State) (ws : List WaitingCause) : (s.withWaiting ws).entries = s.entries := rfl
@[simp] theorem withWaiting_admissionOrder (s : State) (ws : List WaitingCause) : (s.withWaiting ws).admissionOrder = s.admissionOrder := rfl
@[simp] theorem withWaiting_admissionCounter (s : State) (ws : List WaitingCause) : (s.withWaiting ws).admissionCounter = s.admissionCounter := rfl
@[simp] theorem withWaiting_rotation (s : State) (ws : List WaitingCause) : (s.withWaiting ws).rotation = s.rotation := rfl
@[simp] theorem withWaiting_cmdFree (s : State) (ws : List WaitingCause) : (s.withWaiting ws).cmdFree = s.cmdFree := rfl
@[simp] theorem withWaiting_generalFree (s : State) (ws : List WaitingCause) : (s.withWaiting ws).generalFree = s.generalFree := rfl
@[simp] theorem withWaiting_reserveFree (s : State) (ws : List WaitingCause) : (s.withWaiting ws).reserveFree = s.reserveFree := rfl
@[simp] theorem withWaiting_ctrls (s : State) (ws : List WaitingCause) : (s.withWaiting ws).ctrls = s.ctrls := rfl
@[simp] theorem withWaiting_slots (s : State) (ws : List WaitingCause) : (s.withWaiting ws).slots = s.slots := rfl
@[simp] theorem withWaiting_staged (s : State) (ws : List WaitingCause) : (s.withWaiting ws).staged = s.staged := rfl
@[simp] theorem withWaiting_active (s : State) (ws : List WaitingCause) : (s.withWaiting ws).active = s.active := rfl
@[simp] theorem withWaiting_epoch (s : State) (ws : List WaitingCause) : (s.withWaiting ws).epoch = s.epoch := rfl
@[simp] theorem withWaiting_noticeId (s : State) (ws : List WaitingCause) : (s.withWaiting ws).noticeId = s.noticeId := rfl
@[simp] theorem withWaiting_waiting (s : State) (ws : List WaitingCause) : (s.withWaiting ws).waiting = ws := rfl

/-! ## Accessors -/

@[simp] theorem entry_setEntry_self (s : State) (i : XtIx) (e : Entry) : (s.setEntry i e).entry i = e := by
  simp [State.setEntry, State.entry]

@[simp] theorem entry_setEntry_ne (s : State) {i j : XtIx} (e : Entry) (h : i ≠ j) :
    (s.setEntry i e).entry j = s.entry j := by
  simp only [State.setEntry, State.entry]
  exact Vector.getElem_set_ne _ _ (fun h' => h (Fin.ext h'))

theorem entry_setEntry (s : State) (i j : XtIx) (e : Entry) :
    (s.setEntry i e).entry j = if i = j then e else s.entry j := by
  split
  · next h => subst h; simp
  · next h => simp [h]

@[simp] theorem exchange_setEntry_self (s : State) (i : XtIx) (e : Entry) : (s.setEntry i e).exchange i = e.live := by
  simp [State.exchange]

@[simp] theorem exchange_setEntry_ne (s : State) {i j : XtIx} (e : Entry) (h : i ≠ j) :
    (s.setEntry i e).exchange j = s.exchange j := by
  simp [State.exchange, h]

@[simp] theorem ctrl_onCtrl_self (s : State) (l : CtrlIx) (f : CtrlBlock → CtrlBlock) :
    (s.onCtrl l f).ctrl l = f (s.ctrl l) := by
  simp [State.onCtrl, State.ctrl]

@[simp] theorem ctrl_onCtrl_ne (s : State) {l m : CtrlIx} (f : CtrlBlock → CtrlBlock) (h : l ≠ m) :
    (s.onCtrl l f).ctrl m = s.ctrl m := by
  simp only [State.onCtrl, State.ctrl]
  exact Vector.getElem_set_ne _ _ (fun h' => h (Fin.ext h'))

theorem ctrl_onCtrl (s : State) (l m : CtrlIx) (f : CtrlBlock → CtrlBlock) :
    (s.onCtrl l f).ctrl m = if l = m then f (s.ctrl l) else s.ctrl m := by
  split
  · next h => subst h; simp
  · next h => simp [h]

@[simp] theorem slot_onSlot_self (s : State) (n : SlotIx) (f : SlotBlock → SlotBlock) :
    (s.onSlot n f).slot n = f (s.slot n) := by
  simp [State.onSlot, State.slot]

@[simp] theorem slot_onSlot_ne (s : State) {n m : SlotIx} (f : SlotBlock → SlotBlock) (h : n ≠ m) :
    (s.onSlot n f).slot m = s.slot m := by
  simp only [State.onSlot, State.slot]
  exact Vector.getElem_set_ne _ _ (fun h' => h (Fin.ext h'))

theorem slot_onSlot (s : State) (n m : SlotIx) (f : SlotBlock → SlotBlock) :
    (s.onSlot n f).slot m = if n = m then f (s.slot n) else s.slot m := by
  split
  · next h => subst h; simp
  · next h => simp [h]

@[simp] theorem reserve_setReserve_self (s : State) (l : CtrlIx) (k : Nat) : (s.setReserve l k).reserve l = k := by
  simp [State.setReserve, State.reserve]

@[simp] theorem reserve_setReserve_ne (s : State) {l m : CtrlIx} (k : Nat) (h : l ≠ m) :
    (s.setReserve l k).reserve m = s.reserve m := by
  simp only [State.setReserve, State.reserve]
  exact Vector.getElem_set_ne _ _ (fun h' => h (Fin.ext h'))

@[simp] theorem link_onLink_self (s : State) (k : LinkId) (f : LinkBlock → LinkBlock) :
    (s.onLink k f).link k = f (s.link k) := by
  cases k <;> simp [State.onLink, State.link, CtrlBlock.onLink, SlotBlock.onLink]

@[simp] theorem entry_onCtrl (s : State) (l : CtrlIx) (f : CtrlBlock → CtrlBlock) (j : XtIx) :
    (s.onCtrl l f).entry j = s.entry j := rfl
@[simp] theorem entry_onSlot (s : State) (n : SlotIx) (f : SlotBlock → SlotBlock) (j : XtIx) :
    (s.onSlot n f).entry j = s.entry j := rfl
@[simp] theorem entry_setReserve (s : State) (l : CtrlIx) (k : Nat) (j : XtIx) :
    (s.setReserve l k).entry j = s.entry j := rfl
@[simp] theorem entry_onLink (s : State) (k : LinkId) (f : LinkBlock → LinkBlock) (j : XtIx) :
    (s.onLink k f).entry j = s.entry j := by cases k <;> rfl
@[simp] theorem exchange_onCtrl (s : State) (l : CtrlIx) (f : CtrlBlock → CtrlBlock) (j : XtIx) :
    (s.onCtrl l f).exchange j = s.exchange j := rfl
@[simp] theorem exchange_onSlot (s : State) (n : SlotIx) (f : SlotBlock → SlotBlock) (j : XtIx) :
    (s.onSlot n f).exchange j = s.exchange j := rfl
@[simp] theorem exchange_setReserve (s : State) (l : CtrlIx) (k : Nat) (j : XtIx) :
    (s.setReserve l k).exchange j = s.exchange j := rfl
@[simp] theorem exchange_onLink (s : State) (k : LinkId) (f : LinkBlock → LinkBlock) (j : XtIx) :
    (s.onLink k f).exchange j = s.exchange j := by cases k <;> rfl
@[simp] theorem ctrl_setEntry (s : State) (i : XtIx) (e : Entry) (m : CtrlIx) :
    (s.setEntry i e).ctrl m = s.ctrl m := rfl
@[simp] theorem ctrl_onSlot (s : State) (n : SlotIx) (f : SlotBlock → SlotBlock) (m : CtrlIx) :
    (s.onSlot n f).ctrl m = s.ctrl m := rfl
@[simp] theorem ctrl_setReserve (s : State) (l : CtrlIx) (k : Nat) (m : CtrlIx) :
    (s.setReserve l k).ctrl m = s.ctrl m := rfl
@[simp] theorem slot_setEntry (s : State) (i : XtIx) (e : Entry) (m : SlotIx) :
    (s.setEntry i e).slot m = s.slot m := rfl
@[simp] theorem slot_onCtrl (s : State) (l : CtrlIx) (f : CtrlBlock → CtrlBlock) (m : SlotIx) :
    (s.onCtrl l f).slot m = s.slot m := rfl
@[simp] theorem slot_setReserve (s : State) (l : CtrlIx) (k : Nat) (m : SlotIx) :
    (s.setReserve l k).slot m = s.slot m := rfl
@[simp] theorem reserve_setEntry (s : State) (i : XtIx) (e : Entry) (m : CtrlIx) :
    (s.setEntry i e).reserve m = s.reserve m := rfl
@[simp] theorem reserve_onCtrl (s : State) (l : CtrlIx) (f : CtrlBlock → CtrlBlock) (m : CtrlIx) :
    (s.onCtrl l f).reserve m = s.reserve m := rfl
@[simp] theorem reserve_onSlot (s : State) (n : SlotIx) (f : SlotBlock → SlotBlock) (m : CtrlIx) :
    (s.onSlot n f).reserve m = s.reserve m := rfl
@[simp] theorem reserve_onLink (s : State) (k : LinkId) (f : LinkBlock → LinkBlock) (m : CtrlIx) :
    (s.onLink k f).reserve m = s.reserve m := by cases k <;> rfl
@[simp] theorem slotConfig_setEntry (s : State) (i : XtIx) (e : Entry) (m : SlotIx) :
    (s.setEntry i e).slotConfig m = s.slotConfig m := rfl
@[simp] theorem slotConfig_onCtrl (s : State) (l : CtrlIx) (f : CtrlBlock → CtrlBlock) (m : SlotIx) :
    (s.onCtrl l f).slotConfig m = s.slotConfig m := rfl
@[simp] theorem slotConfig_onSlot (s : State) (n : SlotIx) (f : SlotBlock → SlotBlock) (m : SlotIx) :
    (s.onSlot n f).slotConfig m = s.slotConfig m := rfl
@[simp] theorem slotConfig_setReserve (s : State) (l : CtrlIx) (k : Nat) (m : SlotIx) :
    (s.setReserve l k).slotConfig m = s.slotConfig m := rfl
@[simp] theorem slotConfig_onLink (s : State) (k : LinkId) (f : LinkBlock → LinkBlock) (m : SlotIx) :
    (s.onLink k f).slotConfig m = s.slotConfig m := by cases k <;> rfl
@[simp] theorem ctrlConfig_setEntry (s : State) (i : XtIx) (e : Entry) (m : CtrlIx) :
    (s.setEntry i e).ctrlConfig m = s.ctrlConfig m := rfl
@[simp] theorem ctrlConfig_onCtrl (s : State) (l : CtrlIx) (f : CtrlBlock → CtrlBlock) (m : CtrlIx) :
    (s.onCtrl l f).ctrlConfig m = s.ctrlConfig m := rfl
@[simp] theorem ctrlConfig_onSlot (s : State) (n : SlotIx) (f : SlotBlock → SlotBlock) (m : CtrlIx) :
    (s.onSlot n f).ctrlConfig m = s.ctrlConfig m := rfl
@[simp] theorem ctrlConfig_setReserve (s : State) (l : CtrlIx) (k : Nat) (m : CtrlIx) :
    (s.setReserve l k).ctrlConfig m = s.ctrlConfig m := rfl
@[simp] theorem ctrlConfig_onLink (s : State) (k : LinkId) (f : LinkBlock → LinkBlock) (m : CtrlIx) :
    (s.onLink k f).ctrlConfig m = s.ctrlConfig m := by cases k <;> rfl
@[simp] theorem entry_atTime (s : State) (t : Nat) (j : XtIx) : (s.atTime t).entry j = s.entry j := rfl
@[simp] theorem entry_withWaiting (s : State) (ws : List WaitingCause) (j : XtIx) : (s.withWaiting ws).entry j = s.entry j := rfl
@[simp] theorem exchange_atTime (s : State) (t : Nat) (j : XtIx) : (s.atTime t).exchange j = s.exchange j := rfl
@[simp] theorem exchange_withWaiting (s : State) (ws : List WaitingCause) (j : XtIx) : (s.withWaiting ws).exchange j = s.exchange j := rfl
@[simp] theorem ctrl_atTime (s : State) (t : Nat) (m : CtrlIx) : (s.atTime t).ctrl m = s.ctrl m := rfl
@[simp] theorem ctrl_withWaiting (s : State) (ws : List WaitingCause) (m : CtrlIx) : (s.withWaiting ws).ctrl m = s.ctrl m := rfl
@[simp] theorem slot_atTime (s : State) (t : Nat) (m : SlotIx) : (s.atTime t).slot m = s.slot m := rfl
@[simp] theorem slot_withWaiting (s : State) (ws : List WaitingCause) (m : SlotIx) : (s.withWaiting ws).slot m = s.slot m := rfl
@[simp] theorem reserve_atTime (s : State) (t : Nat) (m : CtrlIx) : (s.atTime t).reserve m = s.reserve m := rfl
@[simp] theorem reserve_withWaiting (s : State) (ws : List WaitingCause) (m : CtrlIx) : (s.withWaiting ws).reserve m = s.reserve m := rfl
@[simp] theorem slotConfig_atTime (s : State) (t : Nat) (m : SlotIx) : (s.atTime t).slotConfig m = s.slotConfig m := rfl
@[simp] theorem slotConfig_withWaiting (s : State) (ws : List WaitingCause) (m : SlotIx) : (s.withWaiting ws).slotConfig m = s.slotConfig m := rfl
@[simp] theorem ctrlConfig_atTime (s : State) (t : Nat) (m : CtrlIx) : (s.atTime t).ctrlConfig m = s.ctrlConfig m := rfl
@[simp] theorem ctrlConfig_withWaiting (s : State) (ws : List WaitingCause) (m : CtrlIx) : (s.withWaiting ws).ctrlConfig m = s.ctrlConfig m := rfl
@[simp] theorem link_atTime (s : State) (t : Nat) (k : LinkId) : (s.atTime t).link k = s.link k := by cases k <;> rfl
@[simp] theorem link_withWaiting (s : State) (ws : List WaitingCause) (k : LinkId) : (s.withWaiting ws).link k = s.link k := by cases k <;> rfl

/-! ## The same change -/

theorem onSlot_congr (s : State) (n : SlotIx) {f g : SlotBlock → SlotBlock} (h : f (s.slot n) = g (s.slot n)) :
    s.onSlot n f = s.onSlot n g := by
  simp only [State.onSlot, h]

theorem onCtrl_congr (s : State) (l : CtrlIx) {f g : CtrlBlock → CtrlBlock} (h : f (s.ctrl l) = g (s.ctrl l)) :
    s.onCtrl l f = s.onCtrl l g := by
  simp only [State.onCtrl, h]

/-! ## Writes in a row -/

@[simp] theorem onCtrl_onCtrl (s : State) (l : CtrlIx) (f g : CtrlBlock → CtrlBlock) :
    (s.onCtrl l f).onCtrl l g = s.onCtrl l fun b => g (f b) := by
  simp [State.onCtrl, State.ctrl]

@[simp] theorem onSlot_onSlot (s : State) (n : SlotIx) (f g : SlotBlock → SlotBlock) :
    (s.onSlot n f).onSlot n g = s.onSlot n fun b => g (f b) := by
  simp [State.onSlot, State.slot]

@[simp] theorem setEntry_setEntry (s : State) (i : XtIx) (e e' : Entry) :
    (s.setEntry i e).setEntry i e' = s.setEntry i e' := by
  simp [State.setEntry]

theorem onLink_onLink (s : State) (k : LinkId) (f g : LinkBlock → LinkBlock) :
    (s.onLink k f).onLink k g = s.onLink k fun b => g (f b) := by
  cases k <;> simp [State.onLink, CtrlBlock.onLink, SlotBlock.onLink]

theorem onCtrl_onSlot (s : State) (l : CtrlIx) (n : SlotIx) (f : CtrlBlock → CtrlBlock) (g : SlotBlock → SlotBlock) :
    (s.onCtrl l f).onSlot n g = (s.onSlot n g).onCtrl l f := rfl

theorem setEntry_onSlot (s : State) (i : XtIx) (e : Entry) (n : SlotIx) (g : SlotBlock → SlotBlock) :
    (s.setEntry i e).onSlot n g = (s.onSlot n g).setEntry i e := rfl

theorem setEntry_onCtrl (s : State) (i : XtIx) (e : Entry) (l : CtrlIx) (g : CtrlBlock → CtrlBlock) :
    (s.setEntry i e).onCtrl l g = (s.onCtrl l g).setEntry i e := rfl

end Sys2Proof.Machine
end

