-- ==== Sys2Proof/Laws/Ops.lean ====
section
/-! SUPPORT. What the shared operations leave alone: the clock, the queue of commands, the tables, the admission
order, the notice counter and the waiting causes; the other links and slots. -/

namespace Sys2Proof.Machine

open Sys2Proof

/-- The parts of the state that an ending never touches. -/
def State.ground (s : State) : Nat × List Instr × List XtIx × (Bank × Bank × BitVec 16 × BitVec 32 × CtrlIx)
    × Byte × List WaitingCause :=
  (s.now, s.pending, s.admissionOrder, s.tables, s.noticeId, s.waiting)

theorem foldl_keeps {α β : Type} (f : State → β → State) (g : State → α) (h : ∀ s b, g (f s b) = g s)
    (l : List β) (s : State) : g (l.foldl f s) = g s := by
  induction l generalizing s with
  | nil => rfl
  | cons b l ih => rw [List.foldl_cons, ih, h]

/-! ## ground -/

@[simp] theorem ground_setEntry (s : State) (i : XtIx) (e : Entry) : (s.setEntry i e).ground = s.ground := rfl
@[simp] theorem ground_onCtrl (s : State) (l : CtrlIx) (f : CtrlBlock → CtrlBlock) :
    (s.onCtrl l f).ground = s.ground := rfl
@[simp] theorem ground_onSlot (s : State) (n : SlotIx) (f : SlotBlock → SlotBlock) :
    (s.onSlot n f).ground = s.ground := rfl
@[simp] theorem ground_onLink (s : State) (k : LinkId) (f : LinkBlock → LinkBlock) :
    (s.onLink k f).ground = s.ground := by cases k <;> rfl
@[simp] theorem ground_onResv (s : State) (n : SlotIx) (f : Reservation → Reservation) :
    (s.onResv n f).ground = s.ground := rfl
@[simp] theorem ground_queueSend (s : State) (n : SlotIx) (f : SlotFrame) : (s.queueSend n f).ground = s.ground := rfl
@[simp] theorem ground_withdrawSend (s : State) (n : SlotIx) (f : SlotFrame) :
    (s.withdrawSend n f).ground = s.ground := rfl
@[simp] theorem ground_leaveSlotQueue (s : State) (n : SlotIx) (i : XtIx) :
    (s.leaveSlotQueue n i).ground = s.ground := rfl
@[simp] theorem ground_queueReply (s : State) (l : CtrlIx) (r : ReplyItem) : (s.queueReply l r).ground = s.ground := rfl
@[simp] theorem ground_addOrphan (s : State) (n : SlotIx) (t : RelayTag) (p : Position) :
    (s.addOrphan n t p).ground = s.ground := rfl
@[simp] theorem ground_removeOrphan (s : State) (n : SlotIx) (t : RelayTag) :
    (s.removeOrphan n t).ground = s.ground := rfl
@[simp] theorem ground_settle (s : State) : s.settle.ground = s.ground := rfl

@[simp] theorem ground_setPhase (s : State) (i : XtIx) (p : Phase) : (s.setPhase i p).ground = s.ground := by
  simp only [State.setPhase]; split <;> rfl

@[simp] theorem ground_returnCmd (s : State) (c : Option CmdSpace) : (s.returnCmd c).ground = s.ground := by
  cases c <;> rfl

@[simp] theorem ground_returnResp (s : State) (l : CtrlIx) (p : Pool) (b : Nat) :
    (s.returnResp l p b).ground = s.ground := by
  cases p <;> rfl

@[simp] theorem ground_takeResp (s : State) (l : CtrlIx) (p : Pool) (b : Nat) :
    (s.takeResp l p b).ground = s.ground := by
  cases p <;> rfl

@[simp] theorem ground_release (s : State) (l : CtrlIx) (i : XtIx) (r : Response) :
    (s.release l i r).ground = s.ground := by
  simp [State.release]

@[simp] theorem ground_releaseHeld (s : State) (l : CtrlIx) (i : XtIx) : (s.releaseHeld l i).ground = s.ground := by
  simp only [State.releaseHeld]
  split
  · split <;> simp
  · rfl

@[simp] theorem ground_cascade (s : State) (l : CtrlIx) : (s.cascade l).ground = s.ground := by
  simp only [State.cascade]
  rw [foldl_keeps _ State.ground (fun s i => ground_releaseHeld s l i)]
  rfl

@[simp] theorem ground_handToOrderUnit (s : State) (i : XtIx) (x : Exchange) (r : Response) :
    (s.handToOrderUnit i x r).ground = s.ground := by
  simp only [State.handToOrderUnit]
  split
  · split <;> simp
  · simp

@[simp] theorem ground_closeSlotSide (s : State) (i : XtIx) (x : Exchange) (kept : Nat) (o : Option Position) :
    (s.closeSlotSide i x kept o).ground = s.ground := by
  simp only [State.closeSlotSide]
  cases x.respSpace <;> cases o <;> simp

/-- An ending leaves the clock, the tables, the admission order, the notice counter and the waiting causes alone. -/
@[simp] theorem ground_endExchange (s : State) (i : XtIx) (r : Response) (orphan : Bool) :
    (s.endExchange i r orphan).ground = s.ground := by
  simp only [State.endExchange]
  split
  · rfl
  · cases orphan <;> simp

@[simp] theorem ground_queueCancel (s : State) (t : RelayTag) (x : Exchange) :
    (s.queueCancel t x).ground = s.ground := by
  simp only [State.queueCancel]; split <;> simp

@[simp] theorem ground_endForSlot (s : State) (n : SlotIx) (code : RelayCode) (i : XtIx) :
    (s.endForSlot n code i).ground = s.ground := by
  simp only [State.endForSlot]
  split
  · split
    · split <;> simp
    · rfl
  · rfl

/-- The end of a slot's work leaves them alone too. -/
@[simp] theorem ground_endSlotWork (s : State) (n : SlotIx) (code : RelayCode) :
    (s.endSlotWork n code).ground = s.ground := by
  simp only [State.endSlotWork, ground_onSlot]
  exact foldl_keeps _ State.ground (fun s i => ground_endForSlot s n code i) _ _

@[simp] theorem ground_preempt (s : State) (n : SlotIx) (l : CtrlIx) : (s.preempt n l).ground = s.ground := by
  simp only [State.preempt]
  refine foldl_keeps _ State.ground (fun s i => ?_) _ _
  simp only [State.preemptOne]
  split
  · split <;> simp
  · rfl

/-! ## Notices -/

@[simp] theorem slot_notify (s : State) (l : CtrlIx) (k : NoticeKind) (a : Byte) (c : NoticeCause) (d : List Byte)
    (n : SlotIx) : (s.notify l k a c d).slot n = s.slot n := rfl
@[simp] theorem entry_notify (s : State) (l : CtrlIx) (k : NoticeKind) (a : Byte) (c : NoticeCause) (d : List Byte)
    (i : XtIx) : (s.notify l k a c d).entry i = s.entry i := rfl
@[simp] theorem exchange_notify (s : State) (l : CtrlIx) (k : NoticeKind) (a : Byte) (c : NoticeCause)
    (d : List Byte) (i : XtIx) : (s.notify l k a c d).exchange i = s.exchange i := rfl
@[simp] theorem noticeId_notify (s : State) (l : CtrlIx) (k : NoticeKind) (a : Byte) (c : NoticeCause)
    (d : List Byte) : (s.notify l k a c d).noticeId = s.noticeId + 1 := rfl
@[simp] theorem tables_notify (s : State) (l : CtrlIx) (k : NoticeKind) (a : Byte) (c : NoticeCause)
    (d : List Byte) : (s.notify l k a c d).tables = s.tables := rfl
@[simp] theorem now_notify (s : State) (l : CtrlIx) (k : NoticeKind) (a : Byte) (c : NoticeCause)
    (d : List Byte) : (s.notify l k a c d).now = s.now := rfl

/-- A notice is appended while the queue has room. -/
theorem noticeQ_notify (s : State) (l : CtrlIx) (k : NoticeKind) (a : Byte) (c : NoticeCause) (d : List Byte)
    (h : (s.ctrl l).noticeQ.length < 16) :
    ((s.notify l k a c d).ctrl l).noticeQ = (s.ctrl l).noticeQ ++ [⟨s.noticeId, k, a, c, d⟩] := by
  have e : (s.notify l k a c d).ctrl l = (s.ctrl l).addNotice ⟨s.noticeId, k, a, c, d⟩ :=
    ctrl_onCtrl_self s l (·.addNotice ⟨s.noticeId, k, a, c, d⟩)
  rw [e]
  simp [CtrlBlock.addNotice, Config.noticePlaces, h]

@[simp] theorem slot_notifyManager (s : State) (k : NoticeKind) (a : Byte) (c : NoticeCause) (d : List Byte)
    (n : SlotIx) : (s.notifyManager k a c d).slot n = s.slot n := by
  simp only [State.notifyManager]; split <;> rfl
@[simp] theorem entry_notifyManager (s : State) (k : NoticeKind) (a : Byte) (c : NoticeCause) (d : List Byte)
    (i : XtIx) : (s.notifyManager k a c d).entry i = s.entry i := by
  simp only [State.notifyManager]; split <;> rfl
@[simp] theorem noticeId_notifyManager (s : State) (k : NoticeKind) (a : Byte) (c : NoticeCause) (d : List Byte) :
    (s.notifyManager k a c d).noticeId = s.noticeId + 1 := by
  simp only [State.notifyManager]; split <;> rfl

/-- Clearing a reservation touches, of the slots, only that slot's record. -/
theorem slot_clearReservation (s : State) (n m : SlotIx) (cause : NoticeCause) :
    (s.clearReservation n cause).slot m
      = if n = m then { s.slot m with resv := Reservation.empty } else s.slot m := by
  have hfold : ∀ (w : List CtrlIx) (u : State),
      (w.foldl (fun s l => s.notify l .waitEnded (slotByte n) cause []) u).slot m = u.slot m := fun w u =>
    foldl_keeps _ (fun s => s.slot m) (fun s l => slot_notify s l _ _ _ _ m) w u
  simp only [State.clearReservation, State.onResv, slot_onSlot, hfold]
  split <;> split <;> simp_all

/-! ## The end of an event -/

@[simp] theorem entry_settle (s : State) (i : XtIx) : s.settle.entry i = s.entry i := rfl
@[simp] theorem exchange_settle (s : State) (i : XtIx) : s.settle.exchange i = s.exchange i := rfl
@[simp] theorem reserve_settle (s : State) (l : CtrlIx) : s.settle.reserve l = s.reserve l := rfl
@[simp] theorem cmdFree_settle (s : State) : s.settle.cmdFree = s.cmdFree := rfl
@[simp] theorem generalFree_settle (s : State) : s.settle.generalFree = s.generalFree := rfl
@[simp] theorem now_settle (s : State) : s.settle.now = s.now := rfl
@[simp] theorem pending_settle (s : State) : s.settle.pending = s.pending := rfl
@[simp] theorem waiting_settle (s : State) : s.settle.waiting = s.waiting := rfl
@[simp] theorem admissionOrder_settle (s : State) : s.settle.admissionOrder = s.admissionOrder := rfl
@[simp] theorem noticeId_settle (s : State) : s.settle.noticeId = s.noticeId := rfl
@[simp] theorem tables_settle (s : State) : s.settle.tables = s.tables := rfl

theorem ctrl_settle (s : State) (l : CtrlIx) :
    s.settle.ctrl l = (s.ctrl l).onLink
      (·.settle s.now ((s.ctrl l).link.stalls (s.ctrl l).frameWaits (s.departing l))) := by
  simp [State.settle, State.ctrl]

theorem slot_settle (s : State) (n : SlotIx) :
    s.settle.slot n = (s.slot n).onLink (·.settle s.now ((s.slot n).link.stalls (s.slot n).frameWaits false)) := by
  simp [State.settle, State.slot]

/-! ## Expiries -/

/-- An expiry that can be taken: its effect at its instant, or at the present one when that is later. -/
theorem atExpiry_of_canExpire {s : State} {e : Nat} (h : s.canExpire e) (effect : State → State) :
    s.atExpiry e effect = .next (effect (s.atTime (max s.now e))).settle := by
  have h' : s.mayPassTo (max s.now e) = true := h
  simp [State.atExpiry, h', State.complete]

/-- An expiry that cannot be taken yet changes nothing. -/
theorem atExpiry_of_not_canExpire {s : State} {e : Nat} (h : ¬ s.canExpire e) (effect : State → State) :
    s.atExpiry e effect = .next s := by
  have h' : s.mayPassTo (max s.now e) = false := by simpa using h
  simp [State.atExpiry, h', State.stay]

end Sys2Proof.Machine
end

