-- ==== Sys2Proof/Laws/Reads.lean ====
section
/-! SUPPORT. What the reads of the state say: positions, fences, transit, candidates and the order of the causes
that wait. -/

namespace Sys2Proof.Machine

open Sys2Proof

/-- An entry is FREE or holds an exchange; a case split that keeps `s.exchange i` in the goal. -/
theorem exchange_eq_none_or_some (s : State) (i : XtIx) : s.exchange i = none ∨ ∃ x, s.exchange i = some x := by
  cases s.exchange i <;> simp

theorem entries_toList (s : State) : s.entries.toList = (List.finRange 64).map s.entry := by
  apply List.ext_getElem <;> simp [State.entry]

theorem slots_toList (s : State) : s.slots.toList = (List.finRange 8).map s.slot := by
  apply List.ext_getElem <;> simp [State.slot]

theorem fenced_eq (s : State) (i : XtIx) :
    s.fenced i = (List.finRange 8).any fun n => (s.slot n).orphans.any fun o => o.tag.index == i := by
  rw [State.fenced, slots_toList, List.any_map]
  rfl

/-! ## Transit (R97) -/

theorem transitOf_eq_some_iff {s : State} {n : SlotIx} {i : XtIx} :
    s.transitOf n = some i ↔ ∃ t, (s.slot n).link.sending = some (.slotFrame (.issue t)) ∧ t.index = i := by
  unfold State.transitOf
  split
  · rename_i h
    simp [h]
  · rename_i h
    simp only [reduceCtorEq, false_iff, not_exists, not_and]
    exact fun t ht => absurd ht (h t)

theorem inTransit_eq_true_iff {s : State} {i : XtIx} :
    s.inTransit i = true ↔ ∃ n, s.transitOf n = some i := by
  simp [State.inTransit]

theorem transitReached_eq_true_iff {s : State} {w : WaitingCause} :
    s.transitReached w = true ↔ ∃ n i x, s.transitOf n = some i ∧ s.exchange i = some x ∧ w.reaches x = true := by
  unfold State.transitReached
  rw [List.any_eq_true]
  constructor
  · rintro ⟨n, _, h⟩
    split at h
    · rename_i i hi
      split at h
      · rename_i x hx
        exact ⟨n, i, x, hi, hx, h⟩
      · cases h
    · cases h
  · rintro ⟨n, i, x, hi, hx, h⟩
    exact ⟨n, List.mem_finRange n, by simp [hi, hx, h]⟩

/-- Without a departure among them, the causes that wait are taken in the order in which they arose (R97). -/
theorem waitingOrder_of_no_departure {s : State} (h : ∀ l c, WaitingCause.departure l c ∉ s.waiting) :
    s.waitingOrder = s.waiting := by
  have stays : ∀ l, ¬ ((s.waiting.any fun w => match w with
      | .departure l' _ => l' == l && !s.mustWait w
      | _ => false) = true) := by
    intro l
    rw [Bool.not_eq_true, List.any_eq_false]
    intro w hw
    cases w <;> simp
    exact absurd hw (h _ _)
  unfold State.waitingOrder
  conv => rhs; rw [← List.flatMap_singleton' s.waiting]
  rw [List.flatMap_def, List.flatMap_def]
  congr 1
  apply List.map_congr_left
  intro w _
  cases w with
  | abort l _ _ => exact if_neg (stays l)
  | departure l _ => exact if_neg (stays l)
  | done _ d =>
    dsimp only
    split
    · exact if_neg (stays _)
    · rfl
  | _ => rfl

/-! ## Candidates (R45, R46, R72, R73) -/

theorem candidate_eq_some_iff {s : State} {n : SlotIx} {i : XtIx} :
    s.candidate n = some i ↔ (s.slot n).state = .online ∧ (s.slotConfig n).enabled = true
      ∧ s.windowCount n < (s.slotConfig n).window ∧ (s.slot n).queue.head? = some i := by
  unfold State.candidate
  split
  · rename_i h
    simp [h.1, h.2.1, h.2.2]
  · rename_i h
    simp only [reduceCtorEq, false_iff]
    exact fun hc => h ⟨hc.1, hc.2.1, hc.2.2.1⟩

theorem waitingCandidate_eq_some_iff {s : State} {n : SlotIx} {i : XtIx} :
    s.waitingCandidate n = some i ↔ s.candidate n = some i ∧ ∃ x, s.exchange i = some x ∧ x.need ≠ 0 := by
  unfold State.waitingCandidate
  rcases hc : s.candidate n with _ | j
  · simp
  · rcases exchange_eq_none_or_some s j with he | ⟨x, he⟩
    · simp only [he, reduceCtorEq, Option.some.injEq, false_iff, not_and, not_exists]
      rintro rfl y hy
      rw [he] at hy
      cases hy
    · simp only [he, Option.some.injEq]
      by_cases hn : 0 < x.need
      · simp only [if_pos hn, Option.some.injEq]
        exact ⟨fun h => ⟨h, x, h ▸ he, by omega⟩, fun h => h.1⟩
      · simp only [if_neg hn, reduceCtorEq, false_iff, not_and, not_exists]
        rintro rfl y hy hne
        rw [he] at hy
        cases hy
        omega

theorem isWaiting_eq_true_iff {s : State} {i : XtIx} :
    s.isWaiting i = true ↔ ∃ x, s.exchange i = some x ∧ s.candidate x.id.slot = some i ∧ x.need ≠ 0 := by
  unfold State.isWaiting
  rcases exchange_eq_none_or_some s i with he | ⟨x, he⟩
  · simp [he]
  · simp only [he, beq_iff_eq, waitingCandidate_eq_some_iff, Option.some.injEq]
    constructor
    · rintro ⟨hc, y, rfl, hn⟩
      exact ⟨x, rfl, hc, hn⟩
    · rintro ⟨y, rfl, hc, hn⟩
      exact ⟨hc, x, rfl, hn⟩

/-- The general pool serves the oldest waiting candidate, when its need fits (R72, R73). -/
theorem generalServes_eq_some_iff {s : State} {i : XtIx} :
    s.generalServes = some i
      ↔ s.oldestWaiting = some i ∧ ∃ x, s.exchange i = some x ∧ x.need ≤ s.generalFree := by
  unfold State.generalServes
  rcases hc : s.oldestWaiting with _ | j
  · simp
  · rcases exchange_eq_none_or_some s j with he | ⟨x, he⟩
    · simp only [he, reduceCtorEq, Option.some.injEq, false_iff, not_and, not_exists]
      rintro rfl y hy
      rw [he] at hy
      cases hy
    · simp only [he, Option.some.injEq]
      by_cases hn : x.need ≤ s.generalFree
      · simp only [if_pos hn, Option.some.injEq]
        exact ⟨fun h => ⟨h, x, h ▸ he, hn⟩, fun h => h.1⟩
      · simp only [if_neg hn, reduceCtorEq, false_iff, not_and, not_exists]
        rintro rfl y hy hne
        rw [he] at hy
        cases hy
        exact hn hne

end Sys2Proof.Machine
end

