-- ==== Sys2Proof/Laws/Takes.lean ====
section
/-! SUPPORT. Taking a frame out of a receive buffer: when it is possible, and what it leaves alone. -/

namespace Sys2Proof.Machine

open Sys2Proof

/-! ## Controller Links -/

theorem nextFrame_of_takes {s : State} {l : CtrlIx} {f : RxFrame} (h : s.takes l f) : s.nextFrame l = some f := by
  obtain ⟨h1, h2, h3, h4, h5, h6⟩ := h
  simp [State.nextFrame, State.mayTakeFrame, h1, h2, h3, h4, h5, h6, Config.replyPlaces]

theorem takes_of_nextFrame {s : State} {l : CtrlIx} {f : RxFrame} (h : s.nextFrame l = some f) : s.takes l f := by
  simp only [State.nextFrame] at h
  split at h
  · rename_i hm
    simp only [State.mayTakeFrame, Bool.and_eq_true, beq_iff_eq, decide_eq_true_eq, Option.isNone_iff_eq_none,
      Bool.not_eq_true'] at hm
    exact ⟨hm.1.1.1.1, hm.1.1.1.2, hm.1.1.2, hm.1.2, hm.2, h⟩
  · exact absurd h (by simp)

theorem nextFrame_eq_some_iff {s : State} {l : CtrlIx} {f : RxFrame} : s.nextFrame l = some f ↔ s.takes l f :=
  ⟨takes_of_nextFrame, nextFrame_of_takes⟩

@[simp] theorem entry_tookFrame (s : State) (l : CtrlIx) (i : XtIx) : (s.tookFrame l).entry i = s.entry i := rfl
@[simp] theorem exchange_tookFrame (s : State) (l : CtrlIx) (i : XtIx) :
    (s.tookFrame l).exchange i = s.exchange i := rfl
@[simp] theorem slot_tookFrame (s : State) (l : CtrlIx) (n : SlotIx) : (s.tookFrame l).slot n = s.slot n := rfl
@[simp] theorem now_tookFrame (s : State) (l : CtrlIx) : (s.tookFrame l).now = s.now := rfl
@[simp] theorem pending_tookFrame (s : State) (l : CtrlIx) : (s.tookFrame l).pending = s.pending := rfl
@[simp] theorem waiting_tookFrame (s : State) (l : CtrlIx) : (s.tookFrame l).waiting = s.waiting := rfl
@[simp] theorem admissionOrder_tookFrame (s : State) (l : CtrlIx) :
    (s.tookFrame l).admissionOrder = s.admissionOrder := rfl
@[simp] theorem noticeId_tookFrame (s : State) (l : CtrlIx) : (s.tookFrame l).noticeId = s.noticeId := rfl
@[simp] theorem staged_tookFrame (s : State) (l : CtrlIx) : (s.tookFrame l).staged = s.staged := rfl
@[simp] theorem active_tookFrame (s : State) (l : CtrlIx) : (s.tookFrame l).active = s.active := rfl
@[simp] theorem epoch_tookFrame (s : State) (l : CtrlIx) : (s.tookFrame l).epoch = s.epoch := rfl
@[simp] theorem slotConfig_tookFrame (s : State) (l : CtrlIx) (n : SlotIx) :
    (s.tookFrame l).slotConfig n = s.slotConfig n := rfl
@[simp] theorem access_tookFrame (s : State) (l m : CtrlIx) (n : SlotIx) :
    (s.tookFrame l).access m n = s.access m n := rfl
@[simp] theorem isManager_tookFrame (s : State) (l m : CtrlIx) : (s.tookFrame l).isManager m = s.isManager m := rfl
@[simp] theorem relayTag_tookFrame (s : State) (l : CtrlIx) (i : XtIx) :
    (s.tookFrame l).relayTag i = s.relayTag i := rfl
@[simp] theorem tagged_tookFrame (s : State) (l m : CtrlIx) (tag : Byte) :
    (s.tookFrame l).tagged m tag = s.tagged m tag := rfl
@[simp] theorem inTransit_tookFrame (s : State) (l : CtrlIx) (i : XtIx) :
    (s.tookFrame l).inTransit i = s.inTransit i := rfl
@[simp] theorem transitReached_tookFrame (s : State) (l : CtrlIx) (w : WaitingCause) :
    (s.tookFrame l).transitReached w = s.transitReached w := rfl

/-! ## Slot Links -/

theorem nextSlotFrame_of_takes {s : State} {n : SlotIx} {f : RxFrame} (h : s.slotTakes n f) :
    s.nextSlotFrame n = some f := by
  obtain ⟨h1, h2, h3⟩ := h
  simp [State.nextSlotFrame, h1, h2, h3]

theorem takes_of_nextSlotFrame {s : State} {n : SlotIx} {f : RxFrame} (h : s.nextSlotFrame n = some f) :
    s.slotTakes n f := by
  simp only [State.nextSlotFrame] at h
  split at h
  · rename_i hm
    exact ⟨hm.1, by simpa using hm.2, h⟩
  · exact absurd h (by simp)

@[simp] theorem entry_tookSlotFrame (s : State) (n : SlotIx) (i : XtIx) :
    (s.tookSlotFrame n).entry i = s.entry i := rfl
@[simp] theorem exchange_tookSlotFrame (s : State) (n : SlotIx) (i : XtIx) :
    (s.tookSlotFrame n).exchange i = s.exchange i := rfl
@[simp] theorem ctrl_tookSlotFrame (s : State) (n : SlotIx) (l : CtrlIx) : (s.tookSlotFrame n).ctrl l = s.ctrl l := rfl
@[simp] theorem now_tookSlotFrame (s : State) (n : SlotIx) : (s.tookSlotFrame n).now = s.now := rfl
@[simp] theorem waiting_tookSlotFrame (s : State) (n : SlotIx) : (s.tookSlotFrame n).waiting = s.waiting := rfl
@[simp] theorem noticeId_tookSlotFrame (s : State) (n : SlotIx) : (s.tookSlotFrame n).noticeId = s.noticeId := rfl
@[simp] theorem active_tookSlotFrame (s : State) (n : SlotIx) : (s.tookSlotFrame n).active = s.active := rfl
@[simp] theorem admissionOrder_tookSlotFrame (s : State) (n : SlotIx) :
    (s.tookSlotFrame n).admissionOrder = s.admissionOrder := rfl
@[simp] theorem slotConfig_tookSlotFrame (s : State) (n m : SlotIx) :
    (s.tookSlotFrame n).slotConfig m = s.slotConfig m := rfl
@[simp] theorem relayTag_tookSlotFrame (s : State) (n : SlotIx) (i : XtIx) :
    (s.tookSlotFrame n).relayTag i = s.relayTag i := rfl

/-- A slot after one of them took a frame: only that one's link has changed. -/
theorem slot_tookSlotFrame (s : State) (n m : SlotIx) :
    (s.tookSlotFrame n).slot m = if n = m then (s.slot m).onLink (·.takeHead) else s.slot m := by
  by_cases h : n = m
  · subst h; simp [State.tookSlotFrame]
  · simp [State.tookSlotFrame, h]

@[simp] theorem queue_tookSlotFrame (s : State) (n m : SlotIx) :
    ((s.tookSlotFrame n).slot m).queue = (s.slot m).queue := by
  rw [slot_tookSlotFrame]; split <;> rfl
@[simp] theorem sendQ_tookSlotFrame (s : State) (n m : SlotIx) :
    ((s.tookSlotFrame n).slot m).sendQ = (s.slot m).sendQ := by
  rw [slot_tookSlotFrame]; split <;> rfl
@[simp] theorem orphans_tookSlotFrame (s : State) (n m : SlotIx) :
    ((s.tookSlotFrame n).slot m).orphans = (s.slot m).orphans := by
  rw [slot_tookSlotFrame]; split <;> rfl
@[simp] theorem resv_tookSlotFrame (s : State) (n m : SlotIx) :
    ((s.tookSlotFrame n).slot m).resv = (s.slot m).resv := by
  rw [slot_tookSlotFrame]; split <;> rfl
@[simp] theorem state_tookSlotFrame (s : State) (n m : SlotIx) :
    ((s.tookSlotFrame n).slot m).state = (s.slot m).state := by
  rw [slot_tookSlotFrame]; split <;> rfl
@[simp] theorem sending_tookSlotFrame (s : State) (n m : SlotIx) :
    ((s.tookSlotFrame n).slot m).link.sending = (s.slot m).link.sending := by
  rw [slot_tookSlotFrame]; split <;> rfl

@[simp] theorem parkedCount_tookSlotFrame (s : State) (n m : SlotIx) :
    (s.tookSlotFrame n).parkedCount m = s.parkedCount m := by
  simp [State.parkedCount, State.positions]; rfl
@[simp] theorem transitOf_tookSlotFrame (s : State) (n m : SlotIx) :
    (s.tookSlotFrame n).transitOf m = s.transitOf m := by
  simp [State.transitOf]
@[simp] theorem inTransit_tookSlotFrame (s : State) (n : SlotIx) (i : XtIx) :
    (s.tookSlotFrame n).inTransit i = s.inTransit i := by
  simp [State.inTransit]
@[simp] theorem transitReached_tookSlotFrame (s : State) (n : SlotIx) (w : WaitingCause) :
    (s.tookSlotFrame n).transitReached w = s.transitReached w := by
  simp [State.transitReached]

/-! ## Beginning a frame -/

theorem mayBegin_iff (b : LinkBlock) :
    b.mayBegin = true ↔ b.state = .up ∧ b.sending = none
      ∧ (2 ≤ b.held ∨ b.held = 1 ∧ (1 ≤ b.owed ∨ b.announced = 1)) := by
  simp [LinkBlock.mayBegin, LinkBlock.canUseCredit, and_assoc]

theorem returnCount_eq (b : LinkBlock) : b.returnCount = min (b.owedOther + b.owedCredit) 16 := by
  simp [LinkBlock.returnCount, LinkBlock.owed, Config.maxCreditReturn, Nat.add_comm]

end Sys2Proof.Machine
end

