-- ==== Sys2Proof/Tests/Slice0.lean ====
section
/-! SUPPORT. The model's own tests: well-formedness, fixed values, and for each statement with
hypotheses a state and operands that meet them (test_meets_<statement>), clause by clause. -/

namespace Sys2Proof.Tests

set_option Elab.async false

open Sys2Proof Sys2Proof.Machine

/-! ## Well-formedness -/

theorem test_wf_hello_of_another_kind : (Instr.hello (.ctrl 0) [0x10, 0]).wellFormed = false := by decide
theorem test_wf_frame_of_kind_hello : (Instr.frameReceived (.slot 7) [0x01, 0]).wellFormed = false := by decide
theorem test_wf_credit_count_17 : (Instr.credit (.ctrl 3) 17).wellFormed = false := by decide
theorem test_wf_boundaries : (Instr.credit (.ctrl 3) 16).wellFormed = true
    ∧ (Instr.hello (.ctrl 0) (helloBytes 8)).wellFormed = true
    ∧ (Instr.frameReceived (.ctrl 0) (frameBytes 0x11 0 [5])).wellFormed = true := by decide +kernel

/-! ## Fixed values -/

/-- The known check value of a CRC with the parameters of R177: that of the nine bytes "123456789". -/
theorem test_crc : crc16 [0x31, 0x32, 0x33, 0x34, 0x35, 0x36, 0x37, 0x38, 0x39] = 0x29B1#16 := by decide +kernel
/-- A HELLO whose header has a credit return count above 16 is malformed (R177); a count up to 16 is ignored (R167). -/
theorem test_hello_count : helloSize (.ctrl 0) (frameBytes 0x01 17 [1, 8, 0, 0, 0]) = none
    ∧ helloSize (.ctrl 0) (frameBytes 0x01 16 [1, 8, 0, 0, 0]) = some 8 := by decide +kernel
/-- Index 5 with generation 3 is C5h (R177). -/
theorem test_relay_tag : byteOfTag ⟨5, 3⟩ = 0xC5 ∧ tagOfByte 0xC5 = ⟨5, 3⟩ := by decide
/-- Part code 408 and revision 2 (R158). -/
theorem test_ident : identData = [0x01, 0x98, 0x02] := by decide
/-- The bounds of Table 4.1. -/
theorem test_block_counts : [0, 1, 64, 65, 128, 129, 192, 193, 256].map blockCount = [0, 1, 1, 2, 2, 3, 3, 4, 4] := by
  decide
/-- The table gives no row any bits. -/
theorem test_no_word : decodeTableWord 0 0 = none ∧ State.reset.withFetchWord 8 0x10 = State.reset := ⟨rfl, rfl⟩

/-! ## Small states -/

/-- A locked link in UP with 8 credits of a partner with 8 places. -/
def linkUp : LinkBlock := { LinkBlock.reset with state := .up, locked := true, held := 8, announced := 8 }

/-- After reset, with every link UP and every slot ONLINE. -/
def up : State :=
  { State.reset with
    ctrls := Vector.replicate 4 { CtrlBlock.reset with link := linkUp }
    slots := Vector.replicate 8 { SlotBlock.reset with link := linkUp, state := .online } }

/-- `up` with one frame in the receive buffer of CL0, the manager. -/
def got (f : RxFrame) : State := up.onLink (.ctrl 0) fun b => { b with buffer := [f] }

/-- A state with one frame in the receive buffer of SL2. -/
def slotGot (s : State) (f : RxFrame) : State := s.onLink (.slot 2) fun b => { b with buffer := [f] }

/-- A MGMT request from CL0. -/
def asks (code : Byte) (args : List Byte) : State := got (.mgmt 5 code args)

/-- An ordered ACTION of CL0 for slot 2 with tag 7, in the phase given. -/
def deed (p : Phase) : Exchange :=
  { id := { link := 0, tag := 7, slot := 2, cls := .action, ordered := true, admission := 0, cmdLen := 10, maxResp := 100 }
    phase := p }

/-- A state with that exchange at index 3, generation 1, in the collections its phase asks for. -/
def holding (s : State) (p : Phase) : State :=
  let x := deed p
  let s := { s.setEntry 3 { gen := 1, live := some x } with admissionOrder := [3] }
  let s := if x.isQueued then s.onSlot 2 fun b => { b with queue := [3] } else s
  s.onCtrl 0 fun b =>
    { b with orderList := if x.isReleased then [] else [3], releaseQ := if x.isReleased then [3] else [] }

/-- Command blocks of 10 bytes. -/
def tenBytes : CmdSpace := ⟨1, List.replicate 10 0⟩
/-- A reservation of 2 blocks. -/
def twoBlocks : RespSpace := ⟨2, .general⟩
/-- Queued. -/
def queuedP : Phase := .queued tenBytes
/-- Issued, the ISSUE not yet sent. -/
def unsentP : Phase := .active (some tenBytes) twoBlocks 9000000
/-- Issued and sent. -/
def sentP : Phase := .active none twoBlocks 9000000
/-- Parked. -/
def parkedP : Phase := .parked twoBlocks 9000000
/-- Cancelling. -/
def cancellingP : Phase := .cancelling twoBlocks 9000000 .active
/-- Released. -/
def releasedP : Phase := .released (.relay .aborted)
/-- The entry's ISSUE stands at the head of SL2's queue and is being sent. -/
def transit (s : State) : State := s.onSlot 2 fun b =>
  { b with sendQ := [.issue ⟨3, 1⟩], link := { b.link with sending := some (.slotFrame (.issue ⟨3, 1⟩)) } }

/-- `up` with a holder of slot 2 and waiting links. -/
def reservedFor (l : CtrlIx) (waiting : List CtrlIx) : State :=
  up.onSlot 2 fun b => { b with resv := ⟨some l, some 500000, waiting⟩ }

/-- A CMD of CL0 for slot 2 with 10 bytes. -/
def aCmd : CmdFrame := ⟨7, 2, .action, true, 100, List.replicate 10 0⟩

/-! ## The step -/

theorem test_meets_StepTakesTheFrontCommand :
    { State.reset with pending := [.cmd] }.pending = Instr.cmd :: [] := rfl

theorem test_meets_IdleStepPassesTime :
    (let s := { up.onLink (.ctrl 1) fun b => { b with lineTimer := some 10 } with now := 50009 }
     s.pending = [] ∧ ∀ e ∈ s.timers, s.now < e.1 + 50000)
    ∧ (let s := { up.onLink (.ctrl 1) fun b => { b with lineTimer := some 10 } with now := 50010 }
     s.pending = [] ∧ s.timers.find? (fun e => decide (e.1 + 50000 ≤ s.now)) = some (10, .lineLost (.ctrl 1))) := by
  decide +kernel

/-! ## Lines and links -/

theorem test_meets_LineLockAndUnlock :
    (State.reset.link (.slot 7)).locked = false ∧ (up.link (.slot 7)).locked = true := by decide +kernel

/-- A link that waits for its partner's HELLO with its line lost at 1000. -/
def losing : State := up.onLink (.slot 2) fun b => { b with state := .waitHello, locked := false, lineTimer := some 1000 }

theorem test_meets_LineLostInWaitHelloMakesTheLinkDown :
    ((losing.link (.slot 2)).lineTimer = some 1000 ∧ losing.canExpire 1000 ∧ (losing.link (.slot 2)).state = .waitHello)
    ∧ (let s := (losing.onLink (.ctrl 0) fun b => { b with lineTimer := some 60000 })
       (s.link (.ctrl 0)).lineTimer = some 60000 ∧ ¬ s.canExpire 60000)
    ∧ (up.link (.ctrl 0)).lineTimer = none := by decide +kernel

theorem test_meets_SlotLinkLeavesUp :
    (let s := up.onLink (.slot 2) fun b => { b with locked := false, lineTimer := some 1000 }
     (s.slot 2).link.state = .up ∧ (s.slot 2).link.lineTimer = some 1000 ∧ s.canExpire 1000
      ∧ (s.slot 2).link.locked = false)
    ∧ (let s := up.onLink (.slot 2) fun b => { b with stall := some 1000 }
     (s.slot 2).link.state = .up ∧ (s.slot 2).link.stall = some 1000 ∧ s.canExpire 1000)
    ∧ (let s := up.onLink (.slot 2) fun b => { b with buffer := List.replicate 4 (.fault 1) }
     (s.slot 2).link.state = .up ∧ (frameBytes 0x42 0 [1]).head? ≠ some helloKind
      ∧ 4 ≤ (s.slot 2).link.buffer.length)
    ∧ (up.slot 2).link.state = .up ∧ (frameBytes 0x01 0 [2, 16, 0, 0, 0]).head? = some helloKind
    ∧ helloSize (.slot 2) (frameBytes 0x01 0 [2, 16, 0, 0, 0]) = some 16 := by decide +kernel

theorem test_meets_ControllerLinkLeavesUpOrWaits :
    (let s := up.onLink (.ctrl 0) fun b => { b with lineTimer := some 1000, stall := some 1000 }
     (s.ctrl 0).link.state = .up ∧ (s.ctrl 0).link.lineTimer = some 1000 ∧ (s.ctrl 0).link.stall = some 1000
      ∧ s.canExpire 1000)
    ∧ (let s := up.onLink (.ctrl 0) fun b => { b with buffer := List.replicate 8 (.abort 1) }
     (s.ctrl 0).link.state = .up ∧ (frameBytes 0x11 0 [1]).head? ≠ some helloKind ∧ s.departing 0 = false
      ∧ 8 ≤ (s.ctrl 0).link.buffer.length)
    ∧ (up.ctrl 0).link.state = .up ∧ up.departing 0 = false
    ∧ helloSize (.ctrl 0) (frameBytes 0x01 0 [1, 1, 0, 0, 0]) = some 1
    ∧ (transit (holding up unsentP)).transitReached (.departure 0 .creditStall) = true
    ∧ ((up.withWaiting [.departure 0 .lineLost]).ctrl 0).link.state = .up
    ∧ (up.withWaiting [.departure 0 .lineLost]).departing 0 = true := by decide +kernel

/-- For the departures of CL0, the manager and the entry's own link, and of CL1, which is neither. -/
theorem test_meets_DepartedControllerLinkLeavesNothing :
    let s := (holding up sentP).onSlot 2 fun b => { b with sendQ := [.cancel ⟨3, 1⟩] }
    s.admissionOk ∧ s.exchange 3 = some (deed sentP) ∧ (deed sentP).id.link = 0 ∧ (deed sentP).id.link ≠ 1
    ∧ s.exchange 0 = none ∧ s.manager = some 0 ∧ s.isManager 1 = false
    ∧ SlotFrame.cancel (s.relayTag 3) ∈ (s.slot 2).sendQ ∧ (s.slot 2).link.sending = none
    ∧ s.orphansMade 2 (fun x => x.id.link == 0) = [⟨⟨3, 1⟩, .active, 50000000⟩]
    ∧ s.cancelsMade 2 (fun x => x.id.link == 0) = [.cancel ⟨3, 1⟩] := by decide +kernel

theorem test_meets_HelloBringsALinkUp :
    (losing.slot 2).link.state = .waitHello ∧ (losing.slot 2).state ≠ .offline
    ∧ (let s := losing.onSlot 2 fun b => { b with state := .offline }
       (s.slot 2).link.state = .waitHello ∧ (s.slot 2).state = .offline)
    ∧ ((up.onLink (.ctrl 1) fun b => { b with state := .waitHello }).ctrl 1).link.state = .waitHello
    ∧ helloSize (.slot 2) (frameBytes 0x01 0 [2, 1, 0, 0, 0]) = some 1
    ∧ helloSize (.ctrl 1) (frameBytes 0x01 0 [1, 16, 0, 0, 0]) = some 16
    ∧ helloSize (.ctrl 1) (frameBytes 0x01 0 [1, 17, 0, 0, 0]) = none
    ∧ helloSize (.ctrl 1) (frameBytes 0x01 0 [2, 16, 0, 0, 0]) = none
    ∧ (State.reset.link (.ctrl 1)).state = .down := by decide +kernel

theorem test_meets_ArrivingFrameTakesAPlace :
    (let s := up.onLink (.ctrl 0) fun b => { b with buffer := List.replicate 7 (.abort 1) }
     (s.link (.ctrl 0)).state = .up ∧ s.linkDeparting (.ctrl 0) = false
      ∧ (s.link (.ctrl 0)).buffer.length < bufferPlaces (.ctrl 0))
    ∧ checkFrame (.ctrl 0) [0x11, 0, 0, 1, 5, 0, 0] = .corrupt
    ∧ checkFrame (.ctrl 0) (frameBytes 0x11 17 [5]) = .corrupt
    ∧ checkFrame (.ctrl 0) (frameBytes 0x41 16 [5]) = .discarded 16
    ∧ checkFrame (.ctrl 0) (frameBytes 0x02 3 []) = .credit 3
    ∧ checkFrame (.ctrl 0) (frameBytes 0x11 16 [5]) = .kept 16 (.abort 5)
    ∧ (State.reset.link (.ctrl 0)).state ≠ .up := by decide +kernel

theorem test_meets_FramesAreReadAsLaidOut :
    16 ≤ 16 ∧ 65535 < 65536 ∧ (List.replicate 256 (0 : Byte)).length < 65528
    ∧ (List.replicate 256 (0 : Byte)).length ≤ 256 ∧ 1 ≤ (16 : Byte).toNat ∧ (16 : Byte).toNat ≤ 16
    ∧ 255 < 256 ∧ 16 < 255 ∧ (0 : Byte).toNat = 0 ∧ 16 < (17 : Byte).toNat ∧ (2 : Byte) ≠ 1
    ∧ (0x40 : Byte) ∉ [0x02, 0x10, 0x11, 0x12, 0x13] ∧ (0x10 : Byte) ∉ [0x02, 0x40, 0x41, 0x42]
    ∧ ([0] : List Byte) ≠ [] ∧ (List.replicate 7 (0 : Byte)).length < 8 ∧ ([] : List Byte).length ≠ 1
    ∧ ([0, 1] : List Byte).length ≠ 3 ∧ ([0] : List Byte).length < 2 ∧ (List.replicate 4 (0 : Byte)).length < 5
    ∧ 1 < (2 : Byte).toNat ∧ ([7] : List Byte).length ≠ (0 : Byte).toNat * 256 + (2 : Byte).toNat
    ∧ 3 < (4 : Byte).toNat ∧ 256 < (List.replicate 257 (0 : Byte)).length
    ∧ [0, 0] ≠ [BitVec.ofNat 8 ((crc16 [0x11]).toNat / 256), BitVec.ofNat 8 (crc16 [0x11]).toNat] := by decide +kernel

theorem test_meets_FramesStayWhileTheLinkMayNotTakeThem :
    (State.reset.ctrl 0).link.state ≠ .up ∧ (State.reset.slot 7).link.state ≠ .up
    ∧ (up.ctrl 0).link.buffer = [] ∧ (up.slot 7).link.buffer = []
    ∧ 8 ≤ ((up.onCtrl 0 fun b => { b with replyQ := List.replicate 8 (.refusal 1 .noSlot) }).ctrl 0).replyQ.length
    ∧ (up.withWaiting [.restart 0 5]).ctrlWaits 0 = true
    ∧ (up.withWaiting [.faultFrame 7 1]).slotWaits 7 = true := by decide +kernel

/-! ## Admission -/

theorem test_meets_CmdOfferedTakesTheFrame :
    (got (.cmd aCmd)).takes 0 (.cmd aCmd) ∧ ∀ c, ¬ State.reset.takes 0 (.cmd c) :=
  ⟨by decide +kernel, fun _ h => absurd h.1 (by decide +kernel)⟩

theorem test_meets_AdmissionChecksInOrder :
    256 < { aCmd with maxResp := 257 }.maxResp ∧ slotOfByte 8 = none
    ∧ aCmd.payload.length ≤ 256 ∧ aCmd.maxResp ≤ 256 ∧ slotOfByte aCmd.slotAddr = some 2
    ∧ up.admissionCheck 0 aCmd = .ok (2, 0) ∧ (holding up queuedP).admissionCheck 0 aCmd = .error .tagInUse := by
  decide +kernel

/-- The CMD of CL0 is offered. -/
def offering (s : State) : State := s.onCtrl 0 fun b => { b with offered := some aCmd }

theorem test_meets_RefusedCmdGetsARefusal :
    (offering (reservedFor 1 [])).nextOffer = some 0 ∧ ((offering (reservedFor 1 [])).ctrl 0).offered = some aCmd
    ∧ (offering (reservedFor 1 [])).admissionCheck 0 aCmd = .error .reserved := by decide +kernel

theorem test_meets_AdmittedCmdBecomesAnExchange :
    (offering up).nextOffer = some 0 ∧ ((offering up).ctrl 0).offered = some aCmd
    ∧ (offering up).admissionCheck 0 aCmd = .ok (2, 0) := by decide +kernel

theorem test_meets_OffersAreTakenInRotation :
    (∀ l, (up.ctrl l).offered = none) ∧ (offering up).nextOffer = some 0 ∧ up.rotation = 3 := by decide +kernel

/-- CL0 aborts tag 7. -/
def aborting (p : Phase) : State := holding (got (.abort 7)) p

theorem test_meets_AbortActsByState :
    ((got (.abort 7)).takes 0 (.abort 7) ∧ (got (.abort 7)).tagged 0 7 = none)
    ∧ (∀ p ∈ [queuedP, unsentP, sentP, parkedP, cancellingP, releasedP],
      (aborting p).takes 0 (.abort 7) ∧ (aborting p).tagged 0 7 = some 3 ∧ (aborting p).exchange 3 = some (deed p)
      ∧ (aborting p).inTransit 3 = false)
    ∧ (transit (aborting unsentP)).takes 0 (.abort 7) ∧ (transit (aborting unsentP)).inTransit 3 = true := by
  decide +kernel

/-! ## Endings -/

theorem test_meets_EndingOfAnExchange :
    (holding up sentP).exchange 3 = some (deed sentP) ∧ (deed sentP).isEnded = false
    ∧ ((holding up sentP).slot 2).link.sending = none := by decide +kernel

theorem test_meets_OrderUnitPlacesAResponse :
    (holding up sentP).exchange 3 = some (deed sentP) ∧ (deed sentP).isEnded = false
    ∧ (deed sentP).id.ordered = true ∧ ((holding up sentP).ctrl 0).orderList = 3 :: [] ∧ (3 :: [] : List XtIx).Nodup
    ∧ (let s := (holding up sentP).onCtrl 0 fun b => { b with orderList := [9, 3] }
       s.exchange 3 = some (deed sentP) ∧ s.orderHead 0 ≠ some 3)
    ∧ { (deed sentP).id with ordered := false }.ordered = false := by decide +kernel

/-! ## Reservations -/

/-- A RESV of CL0 in a given state. -/
def resv (s : State) (k : ResvKind) (a : Byte) : State := s.onLink (.ctrl 0) fun b => { b with buffer := [.resv 5 k a] }

theorem test_meets_TakeAnswersByTheRecord :
    (slotOfByte 8 = none ∧ (resv up .take 8).takes 0 (.resv 5 .take 8) ∧ (resv up .renew 8).takes 0 (.resv 5 .renew 8)
      ∧ (resv up .drop 8).takes 0 (.resv 5 .drop 8))
    ∧ slotOfByte 2 = some 2 ∧ (resv up .take 2).takes 0 (.resv 5 .take 2) ∧ (resv up .take 2).access 0 2 = .full
    ∧ ((resv up .take 2).slot 2).resv.holder = none
    ∧ ((resv (reservedFor 0 []) .take 2).slot 2).resv.holder = some 0
    ∧ (((resv (reservedFor 1 [3, 0]) .take 2).slot 2).resv.holder = some 1
      ∧ (0 : CtrlIx) ∈ ((resv (reservedFor 1 [3, 0]) .take 2).slot 2).resv.waiting)
    ∧ (0 : CtrlIx) ∉ ((resv (reservedFor 1 [3]) .take 2).slot 2).resv.waiting
    ∧ (let s := resv { up with active := { up.active with access := Vector.replicate 32 .query } } .take 2
       s.takes 0 (.resv 5 .take 2) ∧ s.access 0 2 ≠ .full) := by decide +kernel

theorem test_meets_RenewRestartsTheLease :
    (resv (reservedFor 0 []) .renew 2).takes 0 (.resv 5 .renew 2) ∧ slotOfByte 2 = some 2
    ∧ ((resv (reservedFor 0 []) .renew 2).slot 2).resv.holder = some 0
    ∧ (resv (reservedFor 1 []) .renew 2).takes 0 (.resv 5 .renew 2)
    ∧ ((resv (reservedFor 1 []) .renew 2).slot 2).resv.holder ≠ some 0 := by decide +kernel

theorem test_meets_DropAnswersByTheRecord :
    (resv (reservedFor 0 []) .drop 2).takes 0 (.resv 5 .drop 2) ∧ slotOfByte 2 = some 2
    ∧ ((resv (reservedFor 0 []) .drop 2).slot 2).resv.holder = some 0
    ∧ ((resv (reservedFor 1 [0]) .drop 2).slot 2).resv.holder ≠ some 0
    ∧ (0 : CtrlIx) ∈ ((resv (reservedFor 1 [0]) .drop 2).slot 2).resv.waiting
    ∧ (0 : CtrlIx) ∉ ((resv (reservedFor 1 [2]) .drop 2).slot 2).resv.waiting := by decide +kernel

theorem test_meets_HandOverAndClearing :
    (let s := reservedFor 0 [1, 2]
     let t := { s with active := { s.active with access := s.active.access.set 10 .query } }
     (t.slot 2).resv.waiting = [1] ++ 2 :: [] ∧ (∀ l ∈ [(1 : CtrlIx)], t.access l 2 ≠ .full) ∧ t.access 2 2 = .full
      ∧ (2 : CtrlIx) ∉ [(1 : CtrlIx)] ∧ (t.ctrl 2).noticeQ.length < 16 ∧ (t.slot 2).resv.waiting.Nodup
      ∧ [(1 : CtrlIx)][0]? = some 1 ∧ (t.slot 2).resv.holder = some 0 ∧ (0 : CtrlIx) ∉ (t.slot 2).resv.waiting
      ∧ (t.slot 2).resv.waiting[1]? = some 2 ∧ (t.slot 2).resv.holder ≠ some 2
      ∧ (t.slot 2).resv.holder ≠ some 3 ∧ (3 : CtrlIx) ∉ (t.slot 2).resv.waiting)
    ∧ (∀ l ∈ ((reservedFor 0 []).slot 2).resv.waiting, (reservedFor 0 []).access l 2 ≠ .full)
    ∧ (let s := up.onCtrl 3 fun b => { b with noticeQ := List.replicate 16 ⟨0, .linkUp, 1, .none, []⟩ }
       16 ≤ (s.ctrl 3).noticeQ.length) := by decide +kernel

theorem test_meets_GrantPreemptsForeignActions :
    (holding up queuedP).exchange 3 = some (deed queuedP) ∧ 3 ∈ ((holding up queuedP).slot 2).queue
    ∧ (deed queuedP).isQueued = true ∧ (deed queuedP).id.cls = .action ∧ (deed queuedP).id.link ≠ 1
    ∧ (holding up sentP).exchange 3 = some (deed sentP) ∧ (deed sentP).isQueued = false := by decide +kernel

/-! ## Management requests -/

theorem test_meets_ReadIdentGivesPartAndRevision :
    (asks 0x01 []).takes 0 (.mgmt 5 0x01 []) ∧ (asks 0x01 [0]).takes 0 (.mgmt 5 0x01 [0]) := by decide +kernel

theorem test_meets_ReadsAnswerAndChangeNothing :
    (∀ a ∈ [[1, 0, 7], [2, 1, 31], [3, 0, 3], [4, 1, 0], [0, 0, 0], [5, 0, 0], [1, 2, 0], [1, 0, 8], [2, 0, 32],
      [3, 0, 4], [4, 0, 1]], (asks 0x02 a).takes 0 (.mgmt 5 0x02 a))
    ∧ (∀ a ∈ [[7], [8]], (asks 0x03 a).takes 0 (.mgmt 5 0x03 a))
    ∧ slotOfByte 7 = some 7 ∧ indexOfByte 63 = some 63
    ∧ (∀ a ∈ [[63], [64]], (asks 0x04 a).takes 0 (.mgmt 5 0x04 a))
    ∧ (asks 0x05 []).takes 0 (.mgmt 5 0x05 []) := by decide +kernel

theorem test_meets_ImagesAreLaidOut :
    SlotConfig.default.inRange = true ∧ ({ openLimit := 32, manager := true } : CtrlConfig).inRange = true
    ∧ ({ ackWindow := 255, orphanDeadline := 50 } : Params).inRange = true := by decide

theorem test_meets_WriteEntryReplacesAStagedEntry :
    (∀ a ∈ [1 :: 7 :: SlotConfig.default.image, [2, 31, 2], [3, 3, 32, 1], [4, 0, 255, 50],
      [1, 7, 1, 9, 0, 1, 1, 1, 0], [2, 0, 3], [3, 0, 33, 0], [3, 0, 1, 2], [4, 0, 0, 1], [5, 0, 1], [1, 8, 0], []],
      (asks 0x06 a).takes 0 (.mgmt 5 0x06 a) ∧ (asks 0x06 a).isManager 0 = true)
    ∧ slotConfigOfImage [1, 9, 0, 1, 1, 1, 0] = none := by decide +kernel

theorem test_meets_RevertCopiesTheActiveBank :
    (asks 0x07 []).takes 0 (.mgmt 5 0x07 []) ∧ (asks 0x07 []).isManager 0 = true
    ∧ (let s := { asks 0x07 [] with active := Bank.default 1 }
       s.takes 0 (.mgmt 5 0x07 []) ∧ s.isManager 0 = false) := by decide +kernel

/-- CL0 asks for ACTIVATE with a staged Controller Table that marks the links given. -/
def activating (ls : List CtrlIx) : State :=
  { asks 0x08 [] with
    staged := { up.staged with control := Vector.ofFn fun l => { openLimit := 16, manager := ls.contains l } } }

theorem test_meets_ActivateCopiesTheStagedBank :
    (∀ ls ∈ [[], [0, 1], [1], [2]], (activating ls).takes 0 (.mgmt 5 0x08 []) ∧ (activating ls).isManager 0 = true)
    ∧ (activating []).staged.managers = [] ∧ 2 ≤ (activating [0, 1]).staged.managers.length
    ∧ (activating [1]).staged.managers = [1] ∧ ((activating [1]).ctrl 1).link.state = .up
    ∧ (let s := (activating [2]).onLink (.ctrl 2) fun b => { b with state := .down }
       s.takes 0 (.mgmt 5 0x08 []) ∧ s.staged.managers = [2] ∧ (s.ctrl 2).link.state ≠ .up)
    ∧ (let s := holding (activating [1]) queuedP
       let c : SlotConfig := { SlotConfig.default with enabled := false }
       let off := { s with staged := { s.staged with slotTable := s.staged.slotTable.set 2 c } }
       s.takes 0 (.mgmt 5 0x08 []) ∧ 3 ∈ (s.slot 2).queue ∧ s.exchange 3 = some (deed queuedP)
        ∧ (deed queuedP).isQueued = true ∧ (s.slotConfig 2).enabled = true ∧ s.staged.slotTable[2].enabled = true
        ∧ (∀ n, n ≠ 2 → 3 ∉ (s.slot n).queue) ∧ off.staged.slotTable[2].enabled = false
        ∧ off.takes 0 (.mgmt 5 0x08 [])) := by decide +kernel

/-- A state whose slot 2 has the state given. -/
def slotIn (s : State) (st : SlotState) : State := s.onSlot 2 fun b => { b with state := st }

theorem test_meets_NoticeAckStopsTheWindow :
    (let s := slotIn (asks 0x09 [9]) (.faulted (some ⟨9, 5000⟩))
     s.takes 0 (.mgmt 5 0x09 [9]) ∧ s.isManager 0 = true ∧ (s.slot 2).state = .faulted (some ⟨9, 5000⟩))
    ∧ (asks 0x09 [9]).takes 0 (.mgmt 5 0x09 [9]) ∧ ∀ n, ((asks 0x09 [9]).slot n).state = .online := by decide +kernel

theorem test_meets_SlotClearReturnsAFaultedSlot :
    ((asks 0x0A [8]).takes 0 (.mgmt 5 0x0A [8]) ∧ (asks 0x0A [8]).isManager 0 = true ∧ 8 ≤ (8 : Byte).toNat)
    ∧ (let s := slotIn (asks 0x0A [2]) (.faulted none)
       s.takes 0 (.mgmt 5 0x0A [2]) ∧ s.isManager 0 = true ∧ slotOfByte 2 = some 2 ∧ (s.slot 2).state = .faulted none
        ∧ (s.slot 2).link.state = .up
        ∧ ((s.onLink (.slot 2) fun b => { b with state := .down }).slot 2).link.state ≠ .up)
    ∧ ((asks 0x0A [2]).slot 2).state = .online := by decide +kernel

theorem test_meets_SlotResetStartsThePulse :
    ((asks 0x0B [8]).takes 0 (.mgmt 5 0x0B [8]) ∧ (asks 0x0B [8]).isManager 0 = true ∧ 8 ≤ (8 : Byte).toNat)
    ∧ (∀ st ∈ [SlotState.online, .offline, .faulted none, .resetting 5000],
      (slotIn (asks 0x0B [2]) st).takes 0 (.mgmt 5 0x0B [2]) ∧ ((slotIn (asks 0x0B [2]) st).slot 2).state = st
      ∧ (slotIn (asks 0x0B [2]) st).transitReached (.slotReset 0 5 2) = false)
    ∧ (transit (holding (asks 0x0B [2]) unsentP)).takes 0 (.mgmt 5 0x0B [2])
    ∧ (transit (holding (asks 0x0B [2]) unsentP)).transitReached (.slotReset 0 5 2) = true := by decide +kernel

theorem test_meets_RelayRestartAnswersEveryExchange :
    (let s := transit (holding (asks 0x0C []) unsentP)
     s.takes 0 (.mgmt 5 0x0C []) ∧ s.isManager 0 = true ∧ s.transitReached (.restart 0 5) = true)
    ∧ (let s := holding (asks 0x0C []) sentP
     s.takes 0 (.mgmt 5 0x0C []) ∧ s.isManager 0 = true ∧ s.transitReached (.restart 0 5) = false
      ∧ s.collectionsOk ∧ (s.slot 2).link.sending = none) := by decide +kernel

theorem test_meets_RelayRestartAnswersEveryExchange_released :
    (holding up releasedP).isManager 0 = true ∧ (holding up releasedP).collectionsOk
    ∧ (deed releasedP).phase = .released (.relay .aborted) := by decide +kernel

theorem test_meets_ManagementChecksComeFirst :
    (asks 0x00 []).takes 0 (.mgmt 5 0x00 []) ∧ (asks 0x0D []).takes 0 (.mgmt 5 0x0D [])
    ∧ (∀ c ∈ [(6 : Byte), 7, 8, 9, 10, 11, 12], { asks c [1] with active := Bank.default 1 }.takes 0 (.mgmt 5 c [1])
      ∧ { asks c [1] with active := Bank.default 1 }.isManager 0 = false)
    ∧ (∀ c ∈ [(2 : Byte), 3, 4, 5, 7, 8, 9, 10, 11, 12], (asks c [1, 1]).takes 0 (.mgmt 5 c [1, 1])
      ∧ (asks c [1, 1]).isManager 0 = true) := by decide +kernel

/-! ## Issues -/

/-- The entry's exchange with no need. -/
def needless : Exchange := { deed queuedP with id := { (deed queuedP).id with maxResp := 0 } }

theorem test_meets_IssuesFollowTheirGrants :
    (let s := holding up queuedP
     ((s.slot 2).state = .online ∧ (s.slotConfig 2).enabled = true ∧ s.windowCount 2 < (s.slotConfig 2).window
      ∧ (s.slot 2).queue.head? = some 3 ∧ s.exchange 3 = some (deed queuedP) ∧ blockCount (deed queuedP).id.maxResp ≠ 0)
      ∧ s.admissionOrder = [] ++ 3 :: [] ∧ (s.ctrl 0).orderList.head? = some 3 ∧ s.reserve 0 = 4
      ∧ blockCount (deed queuedP).id.maxResp ≤ { s with generalFree := 2 }.generalFree
      ∧ { s with generalFree := 1 }.generalFree < blockCount (deed queuedP).id.maxResp
      ∧ (s.setReserve 0 2).reserve 0 ≠ 4 ∧ ∀ j ∈ (s.slot 2).queue.tail, s.exchange j = none)
    ∧ (let s := (holding up queuedP).setEntry 3 { gen := 1, live := some needless }
     (s.slot 2).state = .online ∧ (s.slotConfig 2).enabled = true ∧ s.windowCount 2 < (s.slotConfig 2).window
      ∧ (s.slot 2).queue.head? = some 3 ∧ s.exchange 3 = some needless ∧ blockCount needless.id.maxResp = 0
      ∧ (s.ctrl 0).orderList.head? = some 3)
    ∧ (∀ n, (up.slot n).queue.head? = none) ∧ up.admissionOrder = [] ∧ (∀ l, (up.ctrl l).orderList = []) := by
  decide +kernel

/-- A waiting head with the order head of CL0 behind it: with a need, from a full reserve, and without. -/
theorem test_meets_OvertakingIssue :
    let s := ((holding up queuedP).setEntry 4 { gen := 0, live := some (deed queuedP) }).onSlot 2 fun b =>
      { b with queue := [4, 3] }
    ((s.slot 2).state = .online ∧ (s.slotConfig 2).enabled = true ∧ s.windowCount 2 < (s.slotConfig 2).window
      ∧ (s.slot 2).queue.head? = some 4 ∧ s.exchange 4 = some (deed queuedP)
      ∧ blockCount (deed queuedP).id.maxResp ≠ 0 ∧ (s.slot 2).queue = 4 :: ([] ++ 3 :: []))
    ∧ (s.exchange 3 = some (deed queuedP) ∧ (s.ctrl 0).orderList.head? = some 3 ∧ s.reserve 0 = 4)
    ∧ (let t := s.setEntry 3 { gen := 1, live := some needless }
       t.exchange 3 = some needless ∧ t.overtaker 2 = some 3) := by decide +kernel

theorem test_meets_IssueMakesAnExchangeActive :
    (holding up queuedP).exchange 3 = some (deed queuedP) ∧ (deed queuedP).phase = .queued tenBytes := by
  decide +kernel

/-! ## Sending -/

/-- SL2's queue holds the frame given. -/
def toSend (f : SlotFrame) : State := (holding up unsentP).onSlot 2 fun b => { b with sendQ := [f] }

theorem test_meets_SlotLinkSendsItsOldestFrame :
    (∀ f ∈ [SlotFrame.issue ⟨3, 1⟩, .cancel ⟨3, 1⟩, .keep ⟨3, 1⟩], ((toSend f).slot 2).link.state = .up
      ∧ ((toSend f).slot 2).link.sending = none ∧ 2 ≤ ((toSend f).slot 2).link.held
      ∧ ((toSend f).slot 2).sendQ = f :: [])
    ∧ (toSend (.issue ⟨3, 1⟩)).exchange 3 = some (deed unsentP) ∧ (deed unsentP).cmdSpace = some tenBytes
    ∧ (toSend (.issue ⟨3, 1⟩)).heldBack 3 = false
    ∧ ((toSend (.issue ⟨3, 1⟩)).withWaiting [.faultFrame 2 1]).heldBack 3 = true
    ∧ ((toSend (.issue ⟨3, 1⟩)).slot 2).link.owedOther = 0
    ∧ 1 ≤ (((toSend (.issue ⟨3, 1⟩)).onLink (.slot 2) LinkBlock.oweOther).slot 2).link.owedOther
    ∧ (let s := up.onLink (.slot 2) fun b => { b with held := 1, owedOther := 1 }
       (s.slot 2).link.state = .up ∧ (s.slot 2).link.sending = none ∧ (s.slot 2).link.held = 1
        ∧ 1 ≤ (s.slot 2).link.owed ∧ (s.slot 2).sendQ = [] ∧ 1 ≤ (s.slot 2).link.owedOther)
    ∧ (up.slot 2).sendQ = [] ∧ (up.slot 2).link.owedOther = 0 ∧ (State.reset.slot 2).link.state ≠ .up := by
  decide +kernel

theorem test_meets_IssueSentReturnsCommandBlocks :
    (let s := transit (holding up unsentP)
     (s.slot 2).link.sending = some (.slotFrame (.issue ⟨3, 1⟩)) ∧ (s.slot 2).sendQ = .issue ⟨3, 1⟩ :: []
      ∧ s.exchange 3 = some (deed unsentP) ∧ (deed unsentP).phase = .active (some tenBytes) twoBlocks 9000000
      ∧ s.waiting = [])
    ∧ (up.slot 2).link.sending = none := by decide +kernel

/-- The waiting causes and the states of the clauses about `resolveWaiting` and `takeWaiting`. -/
theorem test_meets_IssueSentReturnsCommandBlocks_waiting :
    (let s := holding up sentP
     s.mustWait (.departure 0 .lineLost) = false ∧ s.inTransit 3 = false ∧ s.exchange 3 = some (deed sentP)
      ∧ (deed sentP).id.link = 0 ∧ (deed sentP).id.slot = 2 ∧ (s.entry 3).gen = 1
      ∧ (deed sentP).phase = .active none twoBlocks 9000000 ∧ s.tagged 0 7 = some 3 ∧ s.tagged 1 7 = none
      ∧ s.isManager 0 = true ∧ (s.slot 2).state = .online ∧ (s.slot 2).orphan ⟨3, 1⟩ = none)
    ∧ (holding up releasedP).tagged 0 7 = some 3 ∧ (deed releasedP).isEnded = true
    ∧ (let s := up.addOrphan 2 ⟨3, 1⟩ .active
       (s.slot 2).orphan ⟨3, 1⟩ ≠ none ∧ s.exchange 3 = none)
    ∧ (∀ st ∈ [SlotState.offline, .faulted none, .resetting 5000], ((slotIn up st).slot 2).state = st)
    ∧ (∀ w ∈ [WaitingCause.abort 0 7 3, .deadline 3, .restart 0 5, .slotReset 0 5 2, .faultFrame 2 1],
      (transit (holding up unsentP)).mustWait w = true) := by decide +kernel

theorem test_meets_IssueSentReturnsCommandBlocks_order :
    ∀ l c, WaitingCause.departure l c ∉ (up.withWaiting [.deadline 3, .restart 0 5]).waiting := by
  simp

theorem test_meets_SentFrameLeavesItsQueue :
    (∀ f ∈ [SlotFrame.cancel ⟨3, 1⟩, .keep ⟨3, 1⟩],
      let s := (toSend f).onLink (.slot 2) fun b => { b with sending := some (.slotFrame f) }
      (s.slot 2).link.sending = some (.slotFrame f) ∧ (s.slot 2).sendQ = f :: [])
    ∧ (∀ w ∈ [Sending.credit, .reply, .notice false, .resp],
      ((up.onLink (.ctrl 0) fun b => { b with sending := some w }).ctrl 0).link.sending = some w)
    ∧ (let s := up.onLink (.slot 2) fun b => { b with sending := some .credit }
       (s.slot 2).link.sending ≠ some (.slotFrame (.cancel ⟨3, 1⟩)) ∧ (s.slot 2).link.sending ≠ some .reply)
    ∧ (up.slot 2).link.sending = none ∧ (up.ctrl 0).link.sending = none := by decide +kernel

theorem test_meets_ControllerLinkSendsInPriority :
    ((up.ctrl 0).link.state = .up ∧ (up.ctrl 0).link.sending = none ∧ 2 ≤ (up.ctrl 0).link.held
      ∧ up.departing 0 = false ∧ (up.ctrl 0).replyQ = [] ∧ (up.ctrl 0).noticeQ = [] ∧ (up.ctrl 0).releaseQ = []
      ∧ (up.ctrl 0).link.owedOther = 0)
    ∧ ((up.onCtrl 0 fun b => { b with replyQ := [.refusal 1 .noSlot] }).ctrl 0).replyQ = [.refusal 1 .noSlot]
    ∧ ((up.notify 0 .linkUp 1 .none []).ctrl 0).noticeQ = [⟨0, .linkUp, 1, .none, []⟩]
    ∧ ((holding up releasedP).ctrl 0).releaseQ = [3] ∧ (holding up releasedP).exchange 3 = some (deed releasedP)
    ∧ 1 ≤ ((up.onLink (.ctrl 0) LinkBlock.oweOther).ctrl 0).link.owedOther
    ∧ (State.reset.ctrl 0).link.state ≠ .up := by decide +kernel

theorem test_meets_RespSentFreesTheEntry :
    let s := (holding up releasedP).onLink (.ctrl 0) fun b => { b with sending := some .resp }
    (s.ctrl 0).link.sending = some .resp ∧ (s.ctrl 0).releaseQ = 3 :: [] ∧ s.exchange 3 = some (deed releasedP)
      ∧ (deed releasedP).phase = .released (.relay .aborted) ∧ (deed releasedP).id.link = 0 ∧ s.collectionsOk := by
  decide +kernel

/-! ## Frames from a card -/

/-- SL2 has a frame for the entry. -/
def fromCard (p : Phase) (f : RxFrame) : State := slotGot (holding up p) f

/-- No slot may park. -/
def noParking (s : State) : State :=
  let c : SlotConfig := { SlotConfig.default with parkedLimit := 0 }
  { s with active := { s.active with slotTable := Vector.replicate 8 c } }

theorem test_meets_ParkParksOrKeeps :
    (let s := fromCard sentP (.park ⟨3, 1⟩)
     s.slotTakes 2 (.park ⟨3, 1⟩) ∧ s.exchange 3 = some (deed sentP) ∧ (deed sentP).phase = .active none twoBlocks 9000000
      ∧ (deed sentP).id.slot = 2 ∧ (s.entry 3).gen = 1 ∧ s.parkedCount 2 < (s.slotConfig 2).parkedLimit
      ∧ SlotFrame.keep ⟨3, 1⟩ ∉ (s.slot 2).sendQ
      ∧ (let t := noParking s
         (t.slotConfig 2).parkedLimit ≤ t.parkedCount 2 ∧ t.slotTakes 2 (.park ⟨3, 1⟩)))
    ∧ (let s := fromCard sentP (.park ⟨3, 2⟩)
       s.slotTakes 2 (.park ⟨3, 2⟩) ∧ (s.entry 3).gen ≠ 2) := by decide +kernel

/-- A DONE for the entry with a payload of n bytes. -/
def doneOf (o : DoneOutcome) (n : Nat) : DoneFrame := ⟨⟨3, 1⟩, o, 0, List.replicate n 0⟩

theorem test_meets_DoneEndsOrRemovesAnOrphan :
    (∀ p ∈ [sentP, parkedP, cancellingP], ∀ d ∈ [doneOf .completed 100, doneOf .cancelled 101],
      let s := fromCard p (.done d)
      s.slotTakes 2 (.done d) ∧ s.exchange 3 = some (deed p) ∧ (deed p).isEnded = false
        ∧ (deed p).respSpace = some twoBlocks ∧ s.inTransit 3 = false)
    ∧ (doneOf .completed 100).payload.length ≤ (deed sentP).id.maxResp
    ∧ (deed sentP).id.maxResp < (doneOf .cancelled 101).payload.length
    ∧ (transit (fromCard unsentP (.done (doneOf .completed 1)))).inTransit 3 = true
    ∧ (let s := slotGot up (.done (doneOf .completed 1))
       s.slotTakes 2 (.done (doneOf .completed 1)) ∧ s.exchange 3 = none ∧ (s.slot 2).orphans = []
        ∧ ((s.addOrphan 2 ⟨3, 1⟩ .active).slot 2).orphans = [⟨⟨3, 1⟩, .active, 50000000⟩]) := by decide +kernel

theorem test_meets_FaultTakesTheSlotOutOfService :
    (let s := fromCard sentP (.fault 9)
     s.slotTakes 2 (.fault 9) ∧ s.transitReached (.faultFrame 2 9) = false ∧ (s.slot 2).state = .online ∧ s.admissionOk
      ∧ s.exchange 3 = some (deed sentP) ∧ (deed sentP).isEnded = false)
    ∧ (transit (fromCard unsentP (.fault 9))).slotTakes 2 (.fault 9)
    ∧ (transit (fromCard unsentP (.fault 9))).transitReached (.faultFrame 2 9) = true
    ∧ (slotIn (slotGot up (.fault 9)) .offline).slotTakes 2 (.fault 9)
    ∧ ((slotIn up .offline).slot 2).state ≠ .online ∧ up.manager = some 0 ∧ (up.ctrl 0).noticeQ.length < 16 := by
  decide +kernel

/-! ## Timers -/

theorem test_meets_DeadlineExpiryEndsTheEntry :
    (∀ p ∈ [unsentP, sentP, parkedP, cancellingP], (holding up p).exchange 3 = some (deed p)
      ∧ (deed p).deadline = some 9000000 ∧ WaitingCause.deadline 3 ∉ (holding up p).waiting
      ∧ (holding up p).canExpire 9000000 ∧ (holding up p).inTransit 3 = false)
    ∧ (transit (holding up unsentP)).inTransit 3 = true ∧ (transit (holding up unsentP)).canExpire 9000000 := by
  decide +kernel

theorem test_meets_OrphanExpiryFaultsTheSlot :
    (let s := up.addOrphan 2 ⟨3, 1⟩ .active
     (s.slot 2).orphan ⟨3, 1⟩ = some ⟨⟨3, 1⟩, .active, 50000000⟩
      ∧ WaitingCause.orphanExpired 2 ⟨3, 1⟩ ∉ s.waiting ∧ s.canExpire 50000000
      ∧ s.transitReached (.orphanExpired 2 ⟨3, 1⟩) = false)
    ∧ ((transit (holding up (.active (some tenBytes) twoBlocks 50000000))).addOrphan 2 ⟨4, 0⟩ .active).transitReached
      (.orphanExpired 2 ⟨4, 0⟩) = true
    ∧ (up.slot 2).orphan ⟨3, 1⟩ = none := by decide +kernel

theorem test_meets_LeaseExpiryRevokesTheHolder :
    ((reservedFor 1 [2]).slot 2).resv.lease = some 500000 ∧ ((reservedFor 1 [2]).slot 2).resv.holder = some 1
    ∧ (reservedFor 1 [2]).canExpire 500000 ∧ (up.slot 2).resv.lease = none := by decide +kernel

theorem test_meets_WindowExpiryEscalatesAndPulseEnds :
    ((slotIn up (.faulted (some ⟨0, 2500000⟩))).slot 2).state = .faulted (some ⟨0, 2500000⟩)
    ∧ (slotIn up (.faulted (some ⟨0, 2500000⟩))).canExpire 2500000
    ∧ ((slotIn up (.resetting 100000)).slot 2).state = .resetting 100000
    ∧ (slotIn up (.resetting 100000)).canExpire 100000 ∧ (up.slot 2).state = .online := by decide +kernel

/-! ## Invariants -/

theorem test_meets_StepKeepsLinks_Tables_TagsUnique :
    (holding up sentP).linksOk ∧ (holding up sentP).tablesOk ∧ (holding up sentP).tagsOk := by decide +kernel

theorem test_meets_StepKeepsCollections :
    (holding up sentP).collectionsOk ∧ (holding up sentP).orderLawOk := by decide +kernel

theorem test_meets_StepKeepsReservations_OutOfService :
    (holding up sentP).reservationsOk ∧ (holding up sentP).outOfServiceOk ∧ (holding up sentP).orphansOk
    ∧ (holding up sentP).positionsOk := by decide +kernel

theorem test_meets_StepKeepsStoreSums :
    { holding up sentP with generalFree := 110 }.collectionsOk
    ∧ { holding up sentP with generalFree := 110 }.storesOk := by decide +kernel

theorem test_steps : runsOn (step (holding up sentP)) = true := by decide +kernel

end Sys2Proof.Tests
end

section
/-! PROOFS. Admission of commands (Section 2): the offering of a CMD, the admission checks of Table 2.1, the taking
of an offer in rotation, and what a refusal and an admission do. -/

namespace Sys2Proof.Machine

open Sys2Proof

/-! ## Offering a CMD (R24) -/

theorem exec_cmdOffered (l : CtrlIx) (s : State) : exec (.cmdOffered l) s = execCmdOffered l s := rfl

/-- The frame leaves the buffer and a credit is owed before the CMD is offered: one change of the link. -/
theorem tookFrame_onCtrl (s : State) (l : CtrlIx) (f : CtrlBlock → CtrlBlock) :
    (s.tookFrame l).onCtrl l f = s.onCtrl l fun b => f (b.onLink (·.takeHead)) :=
  onCtrl_onCtrl s l _ f

theorem execCmdOffered_of_takes {s : State} {l : CtrlIx} {c : CmdFrame} (h : s.takes l (.cmd c)) :
    execCmdOffered l s
      = .next ((s.tookFrame l).onCtrl l fun b => { b with offered := some c }).settle := by
  simp [execCmdOffered, nextFrame_of_takes h, State.complete]

theorem execCmdOffered_of_not_takes {s : State} {l : CtrlIx} (h : ∀ c, ¬ s.takes l (.cmd c)) :
    execCmdOffered l s = .next s := by
  unfold execCmdOffered
  split
  next c hc => exact absurd (takes_of_nextFrame hc) (h c)
  next => rfl

/-- Settles O15: the link takes the frame exactly where its next frame is a CMD. -/
theorem cmdOfferedTakesTheFrame : Obligations.CmdOfferedTakesTheFrame := by
  intro l s
  simp only [exec_cmdOffered]
  refine ⟨fun c hc => ?_, execCmdOffered_of_not_takes⟩
  rw [execCmdOffered_of_takes hc, tookFrame_onCtrl]
  rfl

/-! ## The conditions of the admission checks (Table 2.1) -/

theorem accessRefuses_eq (a : Access) (cls : CmdClass) :
    accessRefuses a cls = (a == .none || (a == .query && cls == .action)) := by
  cases a <;> cases cls <;> rfl

theorem heldByOther_eq (s : State) (l : CtrlIx) (n : SlotIx) :
    s.heldByOther l n = ((s.slot n).resv.holder.isSome && (s.slot n).resv.holder != some l) := by
  unfold State.heldByOther
  cases (s.slot n).resv.holder with
  | none => rfl
  | some h => simp [bne]

theorem tagAt_beq (s : State) (i : XtIx) (l : CtrlIx) (tag : Byte) :
    (s.tagAt i == some (l, tag)) = s.exchangeIs i fun x => x.id.link == l && x.id.tag == tag := by
  unfold State.tagAt State.exchangeIs
  rcases exchange_eq_none_or_some s i with he | ⟨x, he⟩ <;> rw [he] <;> rfl

/-- A tag is in use exactly when some live entry has it (R34). -/
theorem isSome_tagged (s : State) (l : CtrlIx) (tag : Byte) :
    (s.tagged l tag).isSome = (List.finRange 64).any fun i => s.tagAt i == some (l, tag) := by
  simp only [tagAt_beq]
  exact List.isSome_find?

theorem allocatable_eq_find? (s : State) :
    s.allocatable = Fin.find? fun i => (s.exchange i).isNone && !s.fenced i :=
  Fin.find?_eq_find?_finRange.symm

/-- The index given is FREE and not fenced, and no lower one is (R13). -/
theorem allocatable_eq_some_iff {s : State} {i : XtIx} :
    s.allocatable = some i ↔ s.exchange i = none ∧ s.fenced i = false
      ∧ ∀ j, j < i → (s.exchange j).isSome = true ∨ s.fenced j = true := by
  simp [allocatable_eq_find?, and_assoc, Option.isSome_iff_ne_none, or_iff_not_imp_left]

/-- No index can be given exactly when every one is live or fenced (R36). -/
theorem isNone_allocatable (s : State) :
    s.allocatable.isNone = (List.finRange 64).all fun i => (s.exchange i).isSome || s.fenced i := by
  rw [allocatable_eq_find?, Bool.eq_iff_iff, Fin.isNone_find?_iff]
  simp [Option.isSome_iff_ne_none, or_iff_not_imp_left]

/-! ## The checks in order -/

/-- The code of the first check of a list that fails, or the result given when none does. -/
def firstFailing {α : Type} (checks : List (Bool × RelayCode)) (passed : Except RelayCode α) : Except RelayCode α :=
  match checks.find? fun e => e.1 with
  | some (_, code) => .error code
  | none => passed

@[simp] theorem firstFailing_nil {α : Type} (r : Except RelayCode α) : firstFailing [] r = r := rfl

@[simp] theorem firstFailing_cons {α : Type} (b : Bool) (code : RelayCode) (checks : List (Bool × RelayCode))
    (r : Except RelayCode α) :
    firstFailing ((b, code) :: checks) r = if b then .error code else firstFailing checks r := by
  cases b <;> rfl

/-- The checks of Table 2.1 that follow the two on the frame itself (R31 to R38), each true where it fails. -/
def State.tableChecks (s : State) (l : CtrlIx) (c : CmdFrame) (n : SlotIx) : List (Bool × RelayCode) :=
  [(s.access l n == .none || (s.access l n == .query && c.cls == .action), .noAccess),
    (!(s.slotConfig n).enabled, .slotDisabled),
    ((s.slot n).state != .online, .slotUnavailable),
    (c.cls == .action && (s.slot n).resv.holder.isSome && (s.slot n).resv.holder != some l, .reserved),
    ((List.finRange 64).any fun i => s.tagAt i == some (l, c.tag), .tagInUse),
    (decide ((s.ctrlConfig l).openLimit ≤ s.liveCount l), .openLimit),
    ((List.finRange 64).all fun i => (s.exchange i).isSome || s.fenced i, .tableFull),
    (decide ((s.slotConfig n).queueLimit ≤ (s.slot n).queue.length), .queueFull),
    (decide (s.cmdFree < blockCount c.payload.length), .storeFull)]

/-- The slot with the index that the Exchange Table gives, if it can give one (R13, R36). -/
def State.placeAt (s : State) (n : SlotIx) : Except RelayCode (SlotIx × XtIx) :=
  match s.allocatable with
  | some i => .ok (n, i)
  | none => .error .tableFull

theorem admissionCheck_badLength {s : State} {l : CtrlIx} {c : CmdFrame}
    (h : 256 < c.payload.length ∨ 256 < c.maxResp) : s.admissionCheck l c = .error .badLength := by
  unfold State.admissionCheck
  exact if_pos h

theorem admissionCheck_noSlot {s : State} {l : CtrlIx} {c : CmdFrame} (hp : c.payload.length ≤ 256)
    (hm : c.maxResp ≤ 256) (ha : slotOfByte c.slotAddr = none) : s.admissionCheck l c = .error .noSlot := by
  simp [State.admissionCheck, Config.maxPayload, hp, hm, ha]

/-- A CMD of good lengths for a slot that is there gets the code of the first check of the table that fails. -/
theorem admissionCheck_eq_firstFailing {s : State} {l : CtrlIx} {c : CmdFrame} {n : SlotIx}
    (hp : c.payload.length ≤ 256) (hm : c.maxResp ≤ 256) (ha : slotOfByte c.slotAddr = some n) :
    s.admissionCheck l c = firstFailing (s.tableChecks l c n) (s.placeAt n) := by
  have hlen : ¬ (Config.maxPayload < c.payload.length ∨ Config.maxPayload < c.maxResp) := by
    simp [Config.maxPayload, hp, hm]
  simp only [State.admissionCheck, if_neg hlen, ha, State.tableChecks, firstFailing_cons, firstFailing_nil,
    ← accessRefuses_eq, Bool.and_assoc, ← heldByOther_eq, ← isSome_tagged, ← isNone_allocatable, State.placeAt]
  cases s.allocatable <;> simp

/-- Where every check passes, that of R36 does: the Exchange Table has an index to give. -/
theorem exists_allocatable_of_passed {s : State} {l : CtrlIx} {c : CmdFrame} {n : SlotIx}
    (h : ((s.tableChecks l c n).find? fun e => e.1) = none) : ∃ i, s.allocatable = some i := by
  have hmem : (s.allocatable.isNone, RelayCode.tableFull) ∈ s.tableChecks l c n := by
    simp [State.tableChecks, isNone_allocatable]
  have hpass : ¬ s.allocatable.isNone = true := List.find?_eq_none.mp h _ hmem
  exact Option.ne_none_iff_exists'.mp (by simpa using hpass)

/-- Settles O16: the model's chain of checks is the table's list read in its order, and where all pass the index is
that of `allocatable`. -/
theorem admissionChecksInOrder : Obligations.AdmissionChecksInOrder := by
  intro s l c
  refine ⟨admissionCheck_badLength, admissionCheck_noSlot, fun n hp hm ha => ?_⟩
  rw [admissionCheck_eq_firstFailing hp hm ha]
  change match (s.tableChecks l c n).find? fun e => e.1 with
    | some (_, code) => _
    | none => _
  unfold firstFailing
  cases hf : (s.tableChecks l c n).find? fun e => e.1 with
  | some e => rfl
  | none =>
    obtain ⟨i, hi⟩ := exists_allocatable_of_passed hf
    exact ⟨i, by simp [State.placeAt, hi], allocatable_eq_some_iff.mp hi⟩

/-! ## Taking an offer (R25) -/

theorem exec_cmd (s : State) : exec .cmd s = execCmd s := rfl

/-- The k-th link in rotating order is the one k + 1 places after the pointer's. -/
theorem rotatingOrder_eq_map (s : State) :
    s.rotatingOrder = (List.finRange 4).map fun k => s.rotation + 1 + k := by
  have h : ∀ r : CtrlIx, [r + 1, r + 2, r + 3, r] = (List.finRange 4).map fun k => r + 1 + k := by decide
  exact h s.rotation

theorem nextOffer_eq_map (s : State) :
    s.nextOffer = (Fin.find? fun k => (s.ctrl (s.rotation + 1 + k)).offered.isSome).map (s.rotation + 1 + ·) := by
  rw [State.nextOffer, rotatingOrder_eq_map, List.find?_map, ← Fin.find?_eq_find?_finRange]
  rfl

theorem nextOffer_eq_some_iff {s : State} {l : CtrlIx} :
    s.nextOffer = some l ↔ (s.ctrl l).offered.isSome = true
      ∧ ∀ l' : CtrlIx, (l' - s.rotation - 1).val < (l - s.rotation - 1).val → (s.ctrl l').offered = none := by
  have place : ∀ m : CtrlIx, s.rotation + 1 + (m - s.rotation - 1) = m := fun m => by abel
  have rank : ∀ k : CtrlIx, s.rotation + 1 + k - s.rotation - 1 = k := fun k => by abel
  rw [nextOffer_eq_map, Option.map_eq_some_iff]
  simp only [Fin.find?_eq_some_iff, Option.isSome_eq_false_iff, Option.isNone_iff_eq_none]
  constructor
  · rintro ⟨k, ⟨hk, before⟩, rfl⟩
    refine ⟨hk, fun l' hl' => ?_⟩
    rw [rank] at hl'
    exact place l' ▸ before _ hl'
  · rintro ⟨hl, before⟩
    refine ⟨l - s.rotation - 1, ⟨(place l).symm ▸ hl, fun j hj => before _ ?_⟩, place l⟩
    rwa [rank]

theorem execCmd_of_no_offer {s : State} (h : ∀ l, (s.ctrl l).offered = none) : execCmd s = .next s := by
  have hn : s.nextOffer = none := by simp [State.nextOffer, h]
  simp [execCmd, hn, State.stay]

/-- Settles O19: a link's place in the rotating order is its distance from the link after the pointer's. -/
theorem offersAreTakenInRotation : Obligations.OffersAreTakenInRotation :=
  fun s => ⟨fun _ => nextOffer_eq_some_iff, fun h => (exec_cmd s).trans (execCmd_of_no_offer h)⟩

/-! ## The taken CMD (R25 to R29) -/

/-- The offer of link l is over and the pointer names it (R24, R25). -/
def State.endOffer (s : State) (l : CtrlIx) : State :=
  { s.onCtrl l fun b => { b with offered := none } with rotation := l }

/-- No admission check reads an offer or the rotation pointer. -/
theorem admissionCheck_endOffer (s : State) (l m : CtrlIx) (c : CmdFrame) :
    (s.endOffer l).admissionCheck m c = s.admissionCheck m c := rfl

theorem execCmd_of_offer {s : State} {l : CtrlIx} {c : CmdFrame} (hl : s.nextOffer = some l)
    (hc : (s.ctrl l).offered = some c) : execCmd s = .next (s.takeCmd l c).settle := by
  simp [execCmd, hl, hc, State.complete]

theorem takeCmd_of_refused {s : State} {l : CtrlIx} {c : CmdFrame} {code : RelayCode}
    (h : s.admissionCheck l c = .error code) :
    s.takeCmd l c = (s.endOffer l).queueReply l (.refusal c.tag code) := by
  simp only [State.takeCmd]
  split
  next hok => cases hok.symm.trans ((admissionCheck_endOffer s l l c).trans h)
  next herr =>
    cases herr.symm.trans ((admissionCheck_endOffer s l l c).trans h)
    rfl

theorem takeCmd_of_admitted {s : State} {l : CtrlIx} {c : CmdFrame} {n : SlotIx} {i : XtIx}
    (h : s.admissionCheck l c = .ok (n, i)) : s.takeCmd l c = (s.endOffer l).admitCmd l c n i := by
  simp only [State.takeCmd]
  split
  next hok =>
    cases hok.symm.trans ((admissionCheck_endOffer s l l c).trans h)
    rfl
  next herr => cases herr.symm.trans ((admissionCheck_endOffer s l l c).trans h)

/-- What a link does after its offer is over is one change of it with the end of the offer. -/
theorem endOffer_onCtrl (s : State) (l : CtrlIx) (f : CtrlBlock → CtrlBlock) :
    (s.endOffer l).onCtrl l f = { s.onCtrl l fun b => f { b with offered := none } with rotation := l } :=
  onCtrl_onCtrl { s with rotation := l } l (fun b => { b with offered := none }) f

theorem endOffer_setEntry (s : State) (l : CtrlIx) (i : XtIx) (e : Entry) :
    (s.endOffer l).setEntry i e = (s.setEntry i e).endOffer l := rfl

theorem endOffer_onSlot (s : State) (l : CtrlIx) (n : SlotIx) (f : SlotBlock → SlotBlock) :
    (s.endOffer l).onSlot n f = (s.onSlot n f).endOffer l := rfl

/-- Settles O17: the refusal joins the Reply Queue of the link whose offer is over. -/
theorem refusedCmdGetsARefusal : Obligations.RefusedCmdGetsARefusal := by
  intro s l c code hl hc hcode
  rw [exec_cmd, execCmd_of_offer hl hc, takeCmd_of_refused hcode, State.queueReply, endOffer_onCtrl]

theorem onCtrl_id (s : State) (l : CtrlIx) : (s.onCtrl l fun b => b) = s := by
  simp [State.onCtrl, State.ctrl]

/-- The Order List place of a CMD is given only if it is ordered (R29): one change of the link in both cases. -/
theorem admitCmd_eq (s : State) (l : CtrlIx) (c : CmdFrame) (n : SlotIx) (i : XtIx) :
    s.admitCmd l c n i = { ((s.putExchange i (s.admittedExchange l c n)).onSlot n fun b =>
        { b with queue := b.queue ++ [i] }).onCtrl l fun b =>
          { b with orderList := if c.ordered then b.orderList ++ [i] else b.orderList } with
      admissionOrder := s.admissionOrder ++ [i]
      admissionCounter := s.admissionCounter + 1
      cmdFree := s.cmdFree - blockCount c.payload.length } := by
  cases ho : c.ordered with
  | true =>
    simp only [State.admitCmd, ho, if_true]
    rfl
  | false =>
    simp only [State.admitCmd, ho, Bool.false_eq_true, if_false, onCtrl_id]
    rfl

/-- Settles O18: the end of the offer and the Order List place are one change of the link, and nothing else of the
admission touches the link. -/
theorem admittedCmdBecomesAnExchange : Obligations.AdmittedCmdBecomesAnExchange := by
  intro s l c n i hl hc hok
  rw [exec_cmd, execCmd_of_offer hl hc, takeCmd_of_admitted hok, admitCmd_eq, State.putExchange, endOffer_setEntry,
    endOffer_onSlot, endOffer_onCtrl]
  rfl

end Sys2Proof.Machine
end

section
/-! PROOFS. Issues (Section 3, R45 to R48; Section 4, R69 and R72 to R75): what an issue does, and which exchange each
issue command takes from which pool. -/

namespace Sys2Proof.Machine

open Sys2Proof

/-! ## What an issue does (R48, R69) -/

theorem setPhase_of_exchange {s : State} {i : XtIx} {x : Exchange} (hx : s.exchange i = some x) (p : Phase) :
    s.setPhase i p = s.setEntry i { s.entry i with live := some { x with phase := p } } := by
  simp [State.setPhase, hx, State.putExchange]

/-- Blocks are taken from the pool named, and every other part of the state stays. -/
theorem takeResp_eq (s : State) (l : CtrlIx) (pool : Pool) (k : Nat) :
    s.takeResp l pool k = { s with
      generalFree := if pool = .general then s.generalFree - k else s.generalFree
      reserveFree := if pool = .reserve then s.reserveFree.set l (s.reserve l - k) else s.reserveFree } := by
  cases pool <;> rfl

@[simp] theorem entry_takeResp (s : State) (l : CtrlIx) (pool : Pool) (k : Nat) (j : XtIx) :
    (s.takeResp l pool k).entry j = s.entry j := by
  rw [takeResp_eq]; rfl

@[simp] theorem exchange_takeResp (s : State) (l : CtrlIx) (pool : Pool) (k : Nat) (j : XtIx) :
    (s.takeResp l pool k).exchange j = s.exchange j := by
  simp [State.exchange]

@[simp] theorem exchange_leaveSlotQueue (s : State) (n : SlotIx) (i j : XtIx) :
    (s.leaveSlotQueue n i).exchange j = s.exchange j := rfl

/-- Taking blocks commutes with a change of an entry and of a slot. -/
theorem takeResp_setEntry_onSlot (s : State) (l : CtrlIx) (pool : Pool) (k : Nat) (i : XtIx) (e : Entry) (n : SlotIx)
    (f : SlotBlock → SlotBlock) :
    ((s.takeResp l pool k).setEntry i e).onSlot n f = ((s.setEntry i e).onSlot n f).takeResp l pool k := by
  cases pool <;> rfl

/-- An issue changes one entry, one slot and one pool. -/
theorem issueExchange_of_queued {s : State} {i : XtIx} {x : Exchange} {c : CmdSpace} (hx : s.exchange i = some x)
    (hp : x.phase = .queued c) (pool : Pool) :
    s.issueExchange i pool = ((s.setEntry i { s.entry i with live := some { x with
      phase := .active (some c) ⟨x.need, pool⟩ (s.activeDeadlineFrom x.id.slot) } }).onSlot x.id.slot fun b =>
        { b with
          queue := b.queue.filter (· != i)
          sendQ := b.sendQ ++ [SlotFrame.issue (s.relayTag i)] }).takeResp x.id.link pool x.need := by
  have hx' : ((s.leaveSlotQueue x.id.slot i).takeResp x.id.link pool x.need).exchange i = some x := by simpa using hx
  have he : s.issueExchange i pool = (((s.leaveSlotQueue x.id.slot i).takeResp x.id.link pool x.need).setPhase i
      (.active (some c) ⟨x.need, pool⟩ (s.activeDeadlineFrom x.id.slot))).queueSend x.id.slot
        (.issue (s.relayTag i)) := by simp [State.issueExchange, hx, hp]
  rw [he, setPhase_of_exchange hx', State.queueSend, takeResp_setEntry_onSlot, State.leaveSlotQueue, setEntry_onSlot,
    onSlot_onSlot, entry_takeResp]
  rfl

/-- Settles O40: an issue changes one entry, one slot and one pool. -/
theorem issueMakesAnExchangeActive : Obligations.IssueMakesAnExchangeActive := by
  intro s i x c pool hx hp
  rw [issueExchange_of_queued hx hp, takeResp_eq]
  rfl

/-! ## The exchange issued -/

/-- The exchange at an index is its slot's candidate and has a need: it waits for blocks (R72). -/
def State.waitsFor (s : State) (i : XtIx) (x : Exchange) : Prop :=
  s.exchange i = some x ∧ s.candidate x.id.slot = some i ∧ x.need ≠ 0

theorem isWaiting_iff_waitsFor {s : State} {i : XtIx} : s.isWaiting i = true ↔ ∃ x, s.waitsFor i x :=
  isWaiting_eq_true_iff

theorem not_isWaiting_iff {s : State} {i : XtIx} : s.isWaiting i = false ↔ ∀ x, ¬ s.waitsFor i x := by
  rw [← Bool.not_eq_true, isWaiting_iff_waitsFor, not_exists]

/-- No exchange before it in the admission order waits (R72). -/
def State.firstToWait (s : State) (i : XtIx) : Prop :=
  ∃ before after, s.admissionOrder = before ++ i :: after ∧ ∀ j ∈ before, ∀ y, ¬ s.waitsFor j y

theorem oldestWaiting_iff {s : State} {i : XtIx} {x : Exchange} (hw : s.waitsFor i x) :
    s.oldestWaiting = some i ↔ s.firstToWait i := by
  simp [State.oldestWaiting, List.find?_eq_some_iff_append, isWaiting_iff_waitsFor.mpr ⟨x, hw⟩, State.firstToWait,
    not_isWaiting_iff]

/-- The general pool serves a waiting exchange when it is the oldest and its need fits (R73). -/
theorem generalServes_iff {s : State} {i : XtIx} {x : Exchange} (hw : s.waitsFor i x) :
    s.generalServes = some i ↔ s.firstToWait i ∧ x.need ≤ s.generalFree := by
  simp [generalServes_eq_some_iff, oldestWaiting_iff hw, hw.1]

theorem generalServes_eq_none {s : State} {i : XtIx} {x : Exchange} (hw : s.waitsFor i x) (hf : s.firstToWait i)
    (hn : s.generalFree < x.need) : s.generalServes = none := by
  simp [State.generalServes, (oldestWaiting_iff hw).mpr hf, hw.1, hn]

theorem generalServes_eq_none_of_no_waiter {s : State} (h : ∀ i ∈ s.admissionOrder, ∀ x, ¬ s.waitsFor i x) :
    s.generalServes = none := by
  have ho : s.oldestWaiting = none := by
    simpa [State.oldestWaiting, List.find?_eq_none, not_isWaiting_iff] using h
  simp [State.generalServes, ho]

/-- The exchange at an index is the order head of its link, whose reserve is free (R47). -/
def State.mayOvertake (s : State) (i : XtIx) (x : Exchange) : Prop :=
  (s.ctrl x.id.link).orderList.head? = some i ∧ s.reserve x.id.link = 4

/-- The test by which the model finds the overtaking exchange. -/
def State.overtakes (s : State) (i : XtIx) : Bool :=
  s.exchangeIs i fun x => s.orderHead x.id.link == some i && s.reserveIsFree x.id.link

theorem overtakes_iff {s : State} {i : XtIx} :
    s.overtakes i = true ↔ ∃ x, s.exchange i = some x ∧ s.mayOvertake i x := by
  unfold State.overtakes State.exchangeIs
  rcases exchange_eq_none_or_some s i with he | ⟨x, he⟩ <;>
    simp [he, State.mayOvertake, State.orderHead, State.reserveIsFree, Config.reserveBlocks]

theorem not_overtakes_iff {s : State} {i : XtIx} :
    s.overtakes i = false ↔ ∀ x, s.exchange i = some x → ¬ s.mayOvertake i x := by
  rw [← Bool.not_eq_true, overtakes_iff, not_exists]
  simp only [not_and]

/-- Behind a waiting head the exchange nearest to it that may overtake does, if there is one (R47). -/
theorem overtaker_of_waiting_head {s : State} {n : SlotIx} {h : XtIx} (hw : s.waitingCandidate n = some h) :
    s.overtaker n = (s.slot n).queue.tail.find? s.overtakes := by
  simp only [State.overtaker, hw]
  rfl

theorem overtaker_eq_none_of_no_waiting_head {s : State} {n : SlotIx}
    (h : ∀ i x, s.candidate n = some i → s.exchange i = some x → x.need = 0) : s.overtaker n = none := by
  have hw : s.waitingCandidate n = none := by
    rw [Option.eq_none_iff_forall_ne_some]
    intro i hi
    obtain ⟨hc, x, hx, hn⟩ := waitingCandidate_eq_some_iff.mp hi
    exact hn (h i x hc hx)
  simp [State.overtaker, hw]

theorem overtaker_eq_none_of_tail {s : State} {n : SlotIx} (h : ∀ j ∈ (s.slot n).queue.tail, s.overtakes j = false) :
    s.overtaker n = none := by
  cases hw : s.waitingCandidate n with
  | none => simp [State.overtaker, hw]
  | some i => simpa [overtaker_of_waiting_head hw] using h

theorem overtaker_eq_some {s : State} {n : SlotIx} {h i : XtIx} {before after : List XtIx}
    (hw : s.waitingCandidate n = some h) (hq : (s.slot n).queue = h :: (before ++ i :: after))
    (hi : s.overtakes i = true) (hb : ∀ j ∈ before, s.overtakes j = false) : s.overtaker n = some i := by
  rw [overtaker_of_waiting_head hw, hq, List.tail_cons, List.find?_eq_some_iff_append]
  exact ⟨hi, before, after, rfl, by simpa using hb⟩

/-! ## The four commands -/

theorem exec_issue (n : SlotIx) (s : State) : exec (.issue n) s = execIssue n s := rfl
theorem exec_generalGrant (s : State) : exec .generalGrant s = execGeneralGrant s := rfl
theorem exec_reserveGrant (l : CtrlIx) (s : State) : exec (.reserveGrant l) s = execReserveGrant l s := rfl
theorem exec_overtakingIssue (n : SlotIx) (s : State) : exec (.overtakingIssue n) s = execOvertakingIssue n s := rfl

theorem execIssue_of_needless {s : State} {n : SlotIx} {i : XtIx} {x : Exchange} (hc : s.candidate n = some i)
    (hx : s.exchange i = some x) (h0 : x.need = 0) : execIssue n s = .next (s.issueExchange i .general).settle := by
  simp [execIssue, hc, hx, h0, State.complete]

theorem execIssue_of_need {s : State} {n : SlotIx} {i : XtIx} {x : Exchange} (hc : s.candidate n = some i)
    (hx : s.exchange i = some x) (h0 : x.need ≠ 0) : execIssue n s = .next s := by
  simp [execIssue, hc, hx, h0, State.stay]

theorem execIssue_of_no_candidate {s : State} {n : SlotIx} (h : ∀ i, s.candidate n = some i → s.exchange i = none) :
    execIssue n s = .next s := by
  unfold execIssue
  split
  next i hc => rw [h i hc]; rfl
  next => rfl

theorem execGeneralGrant_of_serves {s : State} {i : XtIx} (h : s.generalServes = some i) :
    execGeneralGrant s = .next (s.issueExchange i .general).settle := by
  simp [execGeneralGrant, h, State.complete]

theorem execGeneralGrant_of_serves_none {s : State} (h : s.generalServes = none) : execGeneralGrant s = .next s := by
  simp [execGeneralGrant, h, State.stay]

theorem execReserveGrant_of_granted {s : State} {l : CtrlIx} {i : XtIx} (hl : (s.ctrl l).orderList.head? = some i)
    (hw : s.isWaiting i = true) (hr : s.reserve l = 4) (hg : s.generalServes ≠ some i) :
    execReserveGrant l s = .next (s.issueExchange i .reserve).settle := by
  simp [execReserveGrant, State.orderHead, hl, hw, State.reserveIsFree, hr, Config.reserveBlocks, hg, State.complete]

theorem execReserveGrant_of_not_granted {s : State} {l : CtrlIx} {i : XtIx}
    (hl : (s.ctrl l).orderList.head? = some i)
    (h : s.isWaiting i = false ∨ s.reserve l ≠ 4 ∨ s.generalServes = some i) : execReserveGrant l s = .next s := by
  have hn : ¬ (s.isWaiting i = true ∧ s.reserveIsFree l = true ∧ s.generalServes ≠ some i) := by
    rintro ⟨hw, hr, hg⟩
    rw [State.reserveIsFree, beq_iff_eq] at hr
    rcases h with h | h | h
    · exact absurd hw (by simp [h])
    · exact h hr
    · exact hg h
  simp only [execReserveGrant, State.orderHead, hl, if_neg hn, State.stay]

theorem execReserveGrant_of_no_head {s : State} {l : CtrlIx} (h : (s.ctrl l).orderList = []) :
    execReserveGrant l s = .next s := by
  simp [execReserveGrant, State.orderHead, h, State.stay]

theorem execOvertakingIssue_of_overtaker {s : State} {n : SlotIx} {i : XtIx} {x : Exchange}
    (h : s.overtaker n = some i) (hx : s.exchange i = some x) :
    execOvertakingIssue n s = .next (s.issueExchange i (if x.need = 0 then .general else .reserve)).settle := by
  simp [execOvertakingIssue, h, hx, State.complete]

theorem execOvertakingIssue_of_no_overtaker {s : State} {n : SlotIx} (h : s.overtaker n = none) :
    execOvertakingIssue n s = .next s := by
  simp [execOvertakingIssue, h, State.stay]

/-- Settles O39: each command's own read of the state names the exchange its rule gives, or none. -/
theorem issuesFollowTheirGrants : Obligations.IssuesFollowTheirGrants := by
  intro s need heads waits oldest eligible
  have hcand : ∀ {n i}, heads n i → s.candidate n = some i := candidate_eq_some_iff.mpr
  have hheads : ∀ {n i}, s.candidate n = some i → heads n i := candidate_eq_some_iff.mp
  have hwaits : ∀ {i x}, waits i x ↔ s.waitsFor i x := and_congr_right fun _ =>
    and_congr_left fun _ => candidate_eq_some_iff.symm
  have holdest : ∀ {i}, oldest i ↔ s.firstToWait i := by
    intro i
    simp only [oldest, hwaits, State.firstToWait]
  simp only [exec_issue, exec_generalGrant, exec_reserveGrant, exec_overtakingIssue]
  refine ⟨?_, ?_, ?_, ?_, ?_, ?_, ?_, ?_, ?_, ?_⟩
  -- ISSUE
  · exact fun n i x hh hx => ⟨execIssue_of_needless (hcand hh) hx, execIssue_of_need (hcand hh) hx⟩
  · exact fun n h => execIssue_of_no_candidate fun i hc => h i (hheads hc)
  -- GENERAL_GRANT
  · intro i x hw ho
    rw [hwaits] at hw
    rw [holdest] at ho
    exact ⟨fun hn => execGeneralGrant_of_serves ((generalServes_iff hw).mpr ⟨ho, hn⟩),
      fun hn => execGeneralGrant_of_serves_none (generalServes_eq_none hw ho hn)⟩
  · exact fun h => execGeneralGrant_of_serves_none
      (generalServes_eq_none_of_no_waiter fun i hi x hw => h i hi x (hwaits.mpr hw))
  -- RESERVE_GRANT
  · intro l i x hl hw
    rw [hwaits] at hw
    rw [holdest]
    have hg := generalServes_iff hw
    refine ⟨fun hr hno => execReserveGrant_of_granted hl (isWaiting_iff_waitsFor.mpr ⟨x, hw⟩) hr fun hs => ?_,
      fun ho hn => execReserveGrant_of_not_granted hl (.inr (.inr (hg.mpr ⟨ho, hn⟩))),
      fun hr => execReserveGrant_of_not_granted hl (.inr (.inl hr))⟩
    obtain ⟨ho, hn⟩ := hg.mp hs
    exact hno.elim (· ho) (Nat.not_lt.mpr hn)
  · exact fun l i hl h => execReserveGrant_of_not_granted hl
      (.inl (not_isWaiting_iff.mpr fun x hw => h x (hwaits.mpr hw)))
  · exact fun l hl => execReserveGrant_of_no_head hl
  -- OVERTAKING_ISSUE
  · intro n h y before i x after hh hy hn hq hx he hb
    have hw : s.waitingCandidate n = some h := waitingCandidate_eq_some_iff.mpr ⟨hcand hh, y, hy, hn⟩
    have hi : s.overtakes i = true := overtakes_iff.mpr ⟨x, hx, he⟩
    exact execOvertakingIssue_of_overtaker
      (overtaker_eq_some hw hq hi fun j hj => not_overtakes_iff.mpr (hb j hj)) hx
  · exact fun n h => execOvertakingIssue_of_no_overtaker
      (overtaker_eq_none_of_no_waiting_head fun i x hc => h i x (hheads hc))
  · exact fun n h => execOvertakingIssue_of_no_overtaker
      (overtaker_eq_none_of_tail fun j hj => not_overtakes_iff.mpr (h j hj))

end Sys2Proof.Machine
end

section
/-! PROOFS. The frames of a card that move its exchanges: PARK and DONE (Section 3, R54 to R61). -/

namespace Sys2Proof.Machine

open Sys2Proof

theorem tagNames_iff {s : State} {n : SlotIx} {t : RelayTag} {x : Exchange} :
    s.tagNames n t x = true ↔ x.id.slot = n ∧ (s.entry t.index).gen = t.gen := by
  simp [State.tagNames]

/-! ## PARK (R54 to R56) -/

theorem exec_park (n : SlotIx) (s : State) : exec (.park n) s = execPark n s := rfl

theorem execPark_of_takes {s : State} {n : SlotIx} {t : RelayTag} (h : s.slotTakes n (.park t)) :
    execPark n s = .next ((s.tookSlotFrame n).takePark n t).settle := by
  simp [execPark, nextSlotFrame_of_takes h, State.complete]

section Sent
variable {s : State} {n : SlotIx} {t : RelayTag} {x : Exchange} {sp : RespSpace} {d : Nat}
  (hx : s.exchange t.index = some x) (hp : x.phase = .active none sp d)
include hx hp

/-- A PARK for a sent exchange whose tag is named: the three cases of R55 and R56. -/
theorem takePark_of_sent (hn : s.tagNames n t x = true) :
    s.takePark n t =
      if s.parkedCount n < (s.slotConfig n).parkedLimit then
        (s.setPhase t.index (.parked sp (s.parkedDeadlineFrom n))).withdrawSend n (.keep t)
      else if .keep t ∈ (s.slot n).sendQ then s else s.queueSend n (.keep t) := by
  simp only [State.takePark, hx, hp, hn, if_true]

theorem takePark_below_limit (hn : s.tagNames n t x = true) (hl : s.parkedCount n < (s.slotConfig n).parkedLimit) :
    s.takePark n t = (s.setEntry t.index { s.entry t.index with live := some { x with
      phase := .parked sp (s.parkedDeadlineFrom n) } }).onSlot n (·.withdraw (.keep t)) := by
  rw [takePark_of_sent hx hp hn, if_pos hl, setPhase_of_exchange hx]
  rfl

theorem takePark_at_limit (hn : s.tagNames n t x = true) (hl : (s.slotConfig n).parkedLimit ≤ s.parkedCount n)
    (hk : .keep t ∉ (s.slot n).sendQ) : s.takePark n t = s.queueSend n (.keep t) := by
  rw [takePark_of_sent hx hp hn, if_neg (Nat.not_lt.mpr hl), if_neg hk]

theorem takePark_keep_queued (hn : s.tagNames n t x = true) (hl : (s.slotConfig n).parkedLimit ≤ s.parkedCount n)
    (hk : .keep t ∈ (s.slot n).sendQ) : s.takePark n t = s := by
  rw [takePark_of_sent hx hp hn, if_neg (Nat.not_lt.mpr hl), if_pos hk]

end Sent

/-- Every other PARK is discarded (R54). -/
theorem takePark_discarded {s : State} {n : SlotIx} {t : RelayTag}
    (h : ∀ x sp d, s.exchange t.index = some x → x.phase = .active none sp d → s.tagNames n t x = false) :
    s.takePark n t = s := by
  unfold State.takePark
  split
  next x hx =>
    split
    next sp d hp => rw [if_neg (by simp [h x sp d hx hp])]
    next => rfl
  next => rfl

theorem parkedDeadlineFrom_eq (s : State) (n : SlotIx) :
    s.parkedDeadlineFrom n = s.now + (s.slotConfig n).parkedDeadline * 5000000 := by
  simp [State.parkedDeadlineFrom, Config.cyclesPerMs, Nat.mul_assoc]

/-- Settles O46: taking the PARK out of the buffer changes nothing that its cases read. -/
theorem parkParksOrKeeps : Obligations.ParkParksOrKeeps := by
  intro n t s ht u
  rw [exec_park, execPark_of_takes ht]
  refine ⟨fun x sp d hx hp hs hg => ?_, fun h => ?_⟩
  · have hn : u.tagNames n t x = true := tagNames_iff.mpr ⟨hs, hg⟩
    have hx' : u.exchange t.index = some x := hx
    have hcount : u.parkedCount n = s.parkedCount n := parkedCount_tookSlotFrame s n n
    have hsend : (u.slot n).sendQ = (s.slot n).sendQ := sendQ_tookSlotFrame s n n
    refine ⟨fun hl => ?_, fun hl hk => ?_, fun hl hk => ?_⟩
    · rw [takePark_below_limit hx' hp hn (hcount ▸ hl), parkedDeadlineFrom_eq]
      rfl
    · rw [takePark_at_limit hx' hp hn (hcount ▸ hl) (hsend ▸ hk)]
      rfl
    · rw [takePark_keep_queued hx' hp hn (hcount ▸ hl) (hsend ▸ hk)]
  · have hd : u.takePark n t = u := takePark_discarded fun x sp d hx hp =>
      Bool.eq_false_iff.mpr fun hn => h x sp d hx hp (tagNames_iff.mp hn).1 (tagNames_iff.mp hn).2
    rw [hd]

/-! ## DONE (R57 to R61) -/

/-- An exchange holds a position exactly while it has a reservation and has not ended (Table 1.3). -/
theorem position_isSome_iff {x : Exchange} :
    x.position.isSome = true ↔ x.isEnded = false ∧ x.respSpace.isSome = true := by
  rcases x with ⟨id, phase⟩
  cases phase <;> simp [Exchange.position, Exchange.isEnded, Exchange.respSpace]

theorem doneEntry_eq_some_iff {s : State} {n : SlotIx} {t : RelayTag} {x : Exchange} :
    s.doneEntry n t = some x
      ↔ s.exchange t.index = some x ∧ s.tagNames n t x = true ∧ x.position.isSome = true := by
  unfold State.doneEntry
  rcases exchange_eq_none_or_some s t.index with he | ⟨y, he⟩
  · simp [he]
  · simp only [he, Option.some.injEq]
    constructor
    · intro h
      split at h
      next hc => cases h; exact ⟨rfl, hc⟩
      next => cases h
    · rintro ⟨rfl, hc⟩
      rw [if_pos hc]

theorem doneEntry_eq_none_iff {s : State} {n : SlotIx} {t : RelayTag} :
    s.doneEntry n t = none
      ↔ ∀ x, s.exchange t.index = some x → s.tagNames n t x = true → x.position.isSome = false := by
  simp [Option.eq_none_iff_forall_ne_some, doneEntry_eq_some_iff]

/-- The card's answer in a DONE, with the blocks of its payload kept of the reservation (R59, R70). -/
def DoneFrame.answer (d : DoneFrame) (sp : RespSpace) (late : Bool) : Response :=
  .slot { outcome := d.outcome, status := d.status, lateAbort := late, payload := d.payload,
          space := { blocks := blockCount d.payload.length, pool := sp.pool } }

theorem doneResponse_of_active {x : Exchange} {c : Option CmdSpace} {sp : RespSpace} {e : Nat}
    (hp : x.phase = .active c sp e) (d : DoneFrame) : doneResponse x sp d = d.answer sp false := by
  simp [doneResponse, hp, DoneFrame.answer]

theorem doneResponse_of_parked {x : Exchange} {sp : RespSpace} {e : Nat} (hp : x.phase = .parked sp e)
    (d : DoneFrame) : doneResponse x sp d = d.answer sp false := by
  simp [doneResponse, hp, DoneFrame.answer]

theorem doneResponse_of_cancelled {x : Exchange} {sp : RespSpace} {e : Nat} {p : Position} {d : DoneFrame}
    (hp : x.phase = .cancelling sp e p) (ho : d.outcome = .cancelled) : doneResponse x sp d = .relay .aborted := by
  simp [doneResponse, hp, ho]

theorem doneResponse_of_completed {x : Exchange} {sp : RespSpace} {e : Nat} {p : Position} {d : DoneFrame}
    (hp : x.phase = .cancelling sp e p) (ho : d.outcome = .completed) : doneResponse x sp d = d.answer sp true := by
  simp [doneResponse, hp, ho, DoneFrame.answer]

/-- A DONE that matches an entry ends it (R58 to R60). -/
theorem takeDone_of_entry {s : State} {n : SlotIx} {d : DoneFrame} {x : Exchange} {sp : RespSpace}
    (h : s.doneEntry n d.tag = some x) (hsp : x.respSpace = some sp) :
    s.takeDone n d = s.endExchange d.tag.index
      (if x.id.maxResp < d.payload.length then .relay .slotOverrun else doneResponse x sp d) false := by
  simp only [State.takeDone, h, hsp]
  split <;> rfl

theorem orphan_eq_none_iff {b : SlotBlock} {t : RelayTag} : b.orphan t = none ↔ ∀ o ∈ b.orphans, o.tag ≠ t := by
  simp [SlotBlock.orphan]

theorem orphan_ne_none_iff {b : SlotBlock} {t : RelayTag} : b.orphan t ≠ none ↔ ∃ o ∈ b.orphans, o.tag = t := by
  rw [ne_eq, orphan_eq_none_iff]
  push Not
  rfl

theorem removeOrphan_eq (s : State) (n : SlotIx) (t : RelayTag) :
    s.removeOrphan n t = s.onSlot n fun b =>
      { b with orphans := b.orphans.filter fun o => o.tag != t }.withdraw (.cancel t) := by
  rw [State.removeOrphan, State.withdrawSend, onSlot_onSlot]

/-- A DONE that matches no entry but an orphan removes it (R61). -/
theorem takeDone_of_orphan {s : State} {n : SlotIx} {d : DoneFrame} (h : s.doneEntry n d.tag = none)
    (ho : (s.slot n).orphan d.tag ≠ none) : s.takeDone n d = s.removeOrphan n d.tag := by
  obtain ⟨o, ho⟩ := Option.ne_none_iff_exists'.mp ho
  simp [State.takeDone, h, ho]

/-- A DONE that matches neither an entry nor an orphan is discarded (R57). -/
theorem takeDone_discarded {s : State} {n : SlotIx} {d : DoneFrame} (h : s.doneEntry n d.tag = none)
    (ho : (s.slot n).orphan d.tag = none) : s.takeDone n d = s := by
  simp [State.takeDone, h, ho]

theorem arise_of_mustWait {s : State} {w : WaitingCause} (h : s.mustWait w = true) :
    s.arise w = s.withWaiting (s.waiting ++ [w]) := by
  simp [State.arise, h]

theorem arise_of_not_mustWait {s : State} {w : WaitingCause} (h : s.mustWait w = false) :
    s.arise w = s.takeWaiting w := by
  simp [State.arise, h]

theorem exec_done (n : SlotIx) (s : State) : exec (.done n) s = execDone n s := rfl

/-- A DONE that matches an entry is a cause, which may have to wait (R97). -/
theorem execDone_of_entry {s : State} {n : SlotIx} {d : DoneFrame} (ht : s.slotTakes n (.done d))
    (h : (s.tookSlotFrame n).doneEntry n d.tag ≠ none) :
    execDone n s = .next ((s.tookSlotFrame n).arise (.done n d)).settle := by
  obtain ⟨x, hx⟩ := Option.ne_none_iff_exists'.mp h
  simp [execDone, nextSlotFrame_of_takes ht, hx, State.complete]

theorem execDone_of_no_entry {s : State} {n : SlotIx} {d : DoneFrame} (ht : s.slotTakes n (.done d))
    (h : (s.tookSlotFrame n).doneEntry n d.tag = none) :
    execDone n s = .next ((s.tookSlotFrame n).takeDone n d).settle := by
  simp [execDone, nextSlotFrame_of_takes ht, h, State.complete]

/-- Settles O47: the DONE finds an entry, or looks for an orphan. -/
theorem doneEndsOrRemovesAnOrphan : Obligations.DoneEndsOrRemovesAnOrphan := by
  intro n d s ht u i
  rw [exec_done]
  refine ⟨fun x sp hx hs hg he hsp => ?_, fun h => ?_⟩
  · have hdone : u.doneEntry n d.tag = some x := doneEntry_eq_some_iff.mpr
      ⟨hx, tagNames_iff.mpr ⟨hs, hg⟩, position_isSome_iff.mpr ⟨he, by simp [hsp]⟩⟩
    have hwait : u.mustWait (.done n d) = s.inTransit i := inTransit_tookSlotFrame s n i
    have harise : execDone n s = .next (u.arise (.done n d)).settle := execDone_of_entry ht (by simp [u, hdone])
    refine ⟨fun hi => ?_, fun hi => ?_⟩
    · rw [harise, arise_of_mustWait (hwait.trans hi)]
    · have htaken : execDone n s = .next (u.endExchange i
          (if x.id.maxResp < d.payload.length then .relay .slotOverrun else doneResponse x sp d) false).settle := by
        rw [harise, arise_of_not_mustWait (hwait.trans hi), State.takeWaiting, takeDone_of_entry hdone hsp]
      refine ⟨fun hlong => ?_, fun hfits => ?_⟩
      · rw [htaken, if_pos hlong]
      · rw [if_neg (Nat.not_lt.mpr hfits)] at htaken
        have ends : ∀ {r}, doneResponse x sp d = r → execDone n s = .next (u.endExchange i r false).settle :=
          fun hr => hr ▸ htaken
        exact ⟨fun _ _ hp => ends (doneResponse_of_active hp d), fun _ hp => ends (doneResponse_of_parked hp d),
          fun _ _ hp ho => ends (doneResponse_of_cancelled hp ho),
          fun _ _ hp ho => ends (doneResponse_of_completed hp ho)⟩
  · have hdone : u.doneEntry n d.tag = none := doneEntry_eq_none_iff.mpr fun x hx hn =>
      Bool.eq_false_iff.mpr fun hpos => by
        obtain ⟨hs, hg⟩ := tagNames_iff.mp hn
        obtain ⟨hlive, hsp⟩ := position_isSome_iff.mp hpos
        exact absurd (h x hx hs hg hsp) (by simp [hlive])
    have horph : (u.slot n).orphans = (s.slot n).orphans := orphans_tookSlotFrame s n n
    rw [execDone_of_no_entry ht hdone]
    refine ⟨fun ho => ?_, fun ho => ?_⟩
    · rw [takeDone_of_orphan hdone (orphan_ne_none_iff.mpr (horph ▸ ho)), removeOrphan_eq]
    · rw [takeDone_discarded hdone (orphan_eq_none_iff.mpr (horph ▸ ho))]

end Sys2Proof.Machine
end

section
/-! PROOFS. The end of a transit (R49, R97, R106): what an ISSUE that has left gives back, which causes still wait, the
order in which the others are taken, and what each of them does. -/

namespace Sys2Proof.Machine

open Sys2Proof

/-! ## An ISSUE has left (R49) -/

theorem exec_issueSent (n : SlotIx) (s : State) : exec (.issueSent n) s = execIssueSent n s := rfl

theorem execIssueSent_of_sending {s : State} {n : SlotIx} {t : RelayTag}
    (h : (s.slot n).link.sending = some (.slotFrame (.issue t))) :
    execIssueSent n s = .next (((s.onSlot n (·.sent)).markSent t.index).resolveWaiting).settle := by
  simp [execIssueSent, h, State.complete]

theorem execIssueSent_of_not_sending {s : State} {n : SlotIx}
    (h : ∀ t, (s.slot n).link.sending ≠ some (.slotFrame (.issue t))) : execIssueSent n s = .next s := by
  unfold execIssueSent
  split
  next t ht => exact absurd ht (h t)
  next => rfl

/-- The frame being sent is the head of its queue, which it leaves (R176). -/
theorem sent_of_sendingHead {b : SlotBlock} {f : SlotFrame} {rest : List SlotFrame}
    (hs : b.link.sending = some (.slotFrame f)) (hq : b.sendQ = f :: rest) :
    b.sent = { b with sendQ := rest, link := { b.link with sending := none } } := by
  simp [SlotBlock.sent, SlotBlock.sendingHead, hs, hq, SlotBlock.onLink, LinkBlock.endSend]

theorem markSent_of_active {s : State} {i : XtIx} {x : Exchange} {c : CmdSpace} {sp : RespSpace} {d : Nat}
    (hx : s.exchange i = some x) (hp : x.phase = .active (some c) sp d) :
    s.markSent i = { s.setEntry i { s.entry i with live := some { x with phase := .active none sp d } } with
      cmdFree := s.cmdFree + c.blocks } := by
  have hx' : (s.returnCmd (some c)).exchange i = some x := hx
  simp only [State.markSent, hx, hp, setPhase_of_exchange hx']
  rfl

theorem resolveWaiting_of_none {s : State} (h : s.waiting = []) : s.resolveWaiting = s := by
  simp [State.resolveWaiting, State.waitingOrder, h]

/-! ## Which causes wait (R97) -/

theorem inTransit_iff_sending {s : State} {i : XtIx} :
    s.inTransit i = true ↔ ∃ m t, (s.slot m).link.sending = some (.slotFrame (.issue t)) ∧ t.index = i := by
  simp only [inTransit_eq_true_iff, transitOf_eq_some_iff]

theorem transitReached_iff_sending {s : State} {w : WaitingCause} :
    s.transitReached w = true ↔ ∃ m t, (s.slot m).link.sending = some (.slotFrame (.issue t))
      ∧ ∃ x, s.exchange t.index = some x ∧ w.reaches x = true := by
  rw [transitReached_eq_true_iff]
  constructor
  · rintro ⟨m, i, x, hm, hx, hw⟩
    obtain ⟨t, ht, rfl⟩ := transitOf_eq_some_iff.mp hm
    exact ⟨m, t, ht, x, hx, hw⟩
  · rintro ⟨m, t, ht, x, hx, hw⟩
    exact ⟨m, t.index, x, transitOf_eq_some_iff.mpr ⟨t, ht, rfl⟩, hx, hw⟩

/-! ## What the departure of a Controller Link leaves of the transits -/

/-- What R97 reads of transits: the causes that wait, and the slots' links with the frames they send. -/
def State.transits (s : State) : List WaitingCause × (SlotIx → LinkBlock) := (s.waiting, fun n => (s.slot n).link)

theorem inTransit_of_transits_eq {s u : State} (h : s.transits.2 = u.transits.2) (i : XtIx) :
    s.inTransit i = u.inTransit i := by
  have hl : ∀ n, (s.slot n).link = (u.slot n).link := congrFun h
  simp [State.inTransit, State.transitOf, hl]

@[simp] theorem transits_setEntry (s : State) (i : XtIx) (e : Entry) : (s.setEntry i e).transits = s.transits := rfl
@[simp] theorem transits_onCtrl (s : State) (l : CtrlIx) (f : CtrlBlock → CtrlBlock) :
    (s.onCtrl l f).transits = s.transits := rfl

theorem transits_onSlot {s : State} {n : SlotIx} {f : SlotBlock → SlotBlock}
    (h : (f (s.slot n)).link = (s.slot n).link) : (s.onSlot n f).transits = s.transits := by
  refine Prod.ext rfl (funext fun m => ?_)
  simp only [State.transits, slot_onSlot]
  split
  next hm => rw [h, hm]
  next => rfl

@[simp] theorem link_withdraw (b : SlotBlock) (f : SlotFrame) : (b.withdraw f).link = b.link := by
  unfold SlotBlock.withdraw
  split
  · rfl
  · split <;> rfl

@[simp] theorem transits_queueSend (s : State) (n : SlotIx) (f : SlotFrame) :
    (s.queueSend n f).transits = s.transits := transits_onSlot rfl
@[simp] theorem transits_withdrawSend (s : State) (n : SlotIx) (f : SlotFrame) :
    (s.withdrawSend n f).transits = s.transits := transits_onSlot (link_withdraw _ _)
@[simp] theorem transits_leaveSlotQueue (s : State) (n : SlotIx) (i : XtIx) :
    (s.leaveSlotQueue n i).transits = s.transits := transits_onSlot rfl
@[simp] theorem transits_addOrphan (s : State) (n : SlotIx) (t : RelayTag) (p : Position) :
    (s.addOrphan n t p).transits = s.transits := transits_onSlot rfl
@[simp] theorem transits_onResv (s : State) (n : SlotIx) (f : Reservation → Reservation) :
    (s.onResv n f).transits = s.transits := transits_onSlot rfl
@[simp] theorem transits_notify (s : State) (l : CtrlIx) (k : NoticeKind) (a : Byte) (c : NoticeCause)
    (d : List Byte) : (s.notify l k a c d).transits = s.transits := rfl

@[simp] theorem transits_notifyManager (s : State) (k : NoticeKind) (a : Byte) (c : NoticeCause) (d : List Byte) :
    (s.notifyManager k a c d).transits = s.transits := by
  simp only [State.notifyManager]; split <;> rfl

@[simp] theorem transits_setPhase (s : State) (i : XtIx) (p : Phase) : (s.setPhase i p).transits = s.transits := by
  simp only [State.setPhase]; split <;> rfl

@[simp] theorem transits_returnCmd (s : State) (c : Option CmdSpace) : (s.returnCmd c).transits = s.transits := by
  cases c <;> rfl

@[simp] theorem transits_returnResp (s : State) (l : CtrlIx) (p : Pool) (b : Nat) :
    (s.returnResp l p b).transits = s.transits := by
  cases p <;> rfl

@[simp] theorem transits_release (s : State) (l : CtrlIx) (i : XtIx) (r : Response) :
    (s.release l i r).transits = s.transits := by
  simp [State.release]

@[simp] theorem transits_releaseHeld (s : State) (l : CtrlIx) (i : XtIx) :
    (s.releaseHeld l i).transits = s.transits := by
  simp only [State.releaseHeld]
  split
  · split <;> simp
  · rfl

@[simp] theorem transits_cascade (s : State) (l : CtrlIx) : (s.cascade l).transits = s.transits := by
  simp only [State.cascade]
  rw [foldl_keeps _ State.transits fun s i => transits_releaseHeld s l i, transits_onCtrl]

@[simp] theorem transits_handToOrderUnit (s : State) (i : XtIx) (x : Exchange) (r : Response) :
    (s.handToOrderUnit i x r).transits = s.transits := by
  simp only [State.handToOrderUnit]
  split
  · split <;> simp
  · simp

@[simp] theorem transits_closeSlotSide (s : State) (i : XtIx) (x : Exchange) (kept : Nat) (o : Option Position) :
    (s.closeSlotSide i x kept o).transits = s.transits := by
  simp only [State.closeSlotSide]
  cases x.respSpace <;> cases o <;> simp

@[simp] theorem transits_endExchange (s : State) (i : XtIx) (r : Response) (orphan : Bool) :
    (s.endExchange i r orphan).transits = s.transits := by
  simp only [State.endExchange]
  split
  · rfl
  · cases orphan <;> simp

@[simp] theorem transits_queueCancel (s : State) (t : RelayTag) (x : Exchange) :
    (s.queueCancel t x).transits = s.transits := by
  simp only [State.queueCancel]; split <;> simp

@[simp] theorem transits_freeEntry (s : State) (i : XtIx) (x : Exchange) (o : Option Position) :
    (s.freeEntry i x o).transits = s.transits :=
  transits_closeSlotSide s i x 0 o

@[simp] theorem transits_tearDown (s : State) (l : CtrlIx) : (s.tearDown l).transits = s.transits := by
  refine foldl_keeps _ State.transits (fun s i => ?_) _ _
  simp only [State.tearDownOne]
  split
  · split <;> simp
  · rfl

@[simp] theorem transits_preempt (s : State) (n : SlotIx) (l : CtrlIx) : (s.preempt n l).transits = s.transits := by
  refine foldl_keeps _ State.transits (fun s i => ?_) _ _
  simp only [State.preemptOne]
  split
  · split <;> simp
  · rfl

@[simp] theorem transits_handOverTo (s : State) (n : SlotIx) (ls : List CtrlIx) :
    (s.handOverTo n ls).transits = s.transits := by
  induction ls generalizing s with
  | nil => simp [State.handOverTo]
  | cons l rest ih =>
    simp only [State.handOverTo]
    split
    · simp [State.makeHolder, State.startLease]
    · simp [ih]

@[simp] theorem transits_dropLink (s : State) (l : CtrlIx) : (s.dropLink l).transits = s.transits := by
  refine foldl_keeps _ State.transits (fun s n => ?_) _ _
  simp only [State.dropLinkAt, State.handOver]
  split <;> simp

/-- Of the transits a departure changes only that the causes of its link no longer wait (R106, R155). -/
theorem transits_departCtrl (s : State) (l : CtrlIx) (c : DepartCause) :
    (s.departCtrl l c).transits = (s.withWaiting (s.waiting.filter fun w => !w.goesWith l)).transits := by
  simp only [State.departCtrl]
  split <;> simp

/-! ## The order in which the causes are taken (R97, R106) -/

theorem resolveOne_eq (s : State) (w : WaitingCause) :
    s.resolveOne w = if w ∈ s.waiting ∧ s.mustWait w = false then (s.withWaiting (s.waiting.erase w)).takeWaiting w
      else s := by
  simp [State.resolveOne]

theorem resolveOne_of_ready {s : State} {w : WaitingCause} (hw : w ∈ s.waiting) (hm : s.mustWait w = false) :
    s.resolveOne w = (s.withWaiting (s.waiting.erase w)).takeWaiting w := by
  rw [resolveOne_eq, if_pos ⟨hw, hm⟩]

theorem resolveWaiting_of_no_departure {s : State} (h : ∀ l c, WaitingCause.departure l c ∉ s.waiting) :
    s.resolveWaiting = s.waiting.foldl State.resolveOne s := by
  rw [State.resolveWaiting, waitingOrder_of_no_departure h]

@[simp] theorem withWaiting_withWaiting (s : State) (ws vs : List WaitingCause) :
    (s.withWaiting ws).withWaiting vs = s.withWaiting vs := rfl

/-- A departure itself removes the causes that go with its link. -/
theorem departCtrl_withWaiting (s : State) (ws : List WaitingCause) (l : CtrlIx) (c : DepartCause) :
    (s.withWaiting ws).departCtrl l c = (s.withWaiting (ws.filter fun w => !w.goesWith l)).departCtrl l c := by
  simp only [State.departCtrl, withWaiting_withWaiting, withWaiting_waiting, List.filter_filter, Bool.and_self]

theorem takeWaiting_departure (s : State) (l : CtrlIx) (c : DepartCause) :
    s.takeWaiting (.departure l c) = s.departCtrl l c := rfl

/-- A departure with at most an ABORT of its own link: the ABORT is discarded (R106). -/
theorem resolveWaiting_of_departure {s : State} {l : CtrlIx} {c : DepartCause} {tag : Byte} {i : XtIx}
    (hm : s.mustWait (.departure l c) = false)
    (hw : s.waiting ∈ [[.departure l c], [.abort l tag i, .departure l c], [.departure l c, .abort l tag i]]) :
    s.resolveWaiting = (s.withWaiting []).departCtrl l c := by
  simp only [List.mem_cons, List.not_mem_nil, or_false] at hw
  have horder : s.waitingOrder = [.departure l c] := by
    rcases hw with hw | hw | hw <;> simp [State.waitingOrder, hw, hm]
  have hmem : .departure l c ∈ s.waiting := by
    rcases hw with hw | hw | hw <;> simp [hw]
  have hrest : (s.waiting.erase (.departure l c)).filter (fun w => !w.goesWith l) = [] := by
    rcases hw with hw | hw | hw <;> simp [hw, WaitingCause.goesWith]
  rw [State.resolveWaiting, horder, List.foldl_cons, List.foldl_nil, resolveOne_of_ready hmem hm,
    takeWaiting_departure, departCtrl_withWaiting, hrest]

/-- A departure with a DONE for an entry of its link: the DONE follows, for the departure has left it waiting and has
begun no ISSUE (R106). -/
theorem resolveWaiting_of_departure_done {s : State} {l : CtrlIx} {c : DepartCause} {n : SlotIx} {d : DoneFrame}
    {x : Exchange} (hm : s.mustWait (.departure l c) = false) (ht : s.inTransit d.tag.index = false)
    (hx : s.exchange d.tag.index = some x) (hl : x.id.link = l)
    (hw : s.waiting ∈ [[.done n d, .departure l c], [.departure l c, .done n d]]) :
    s.resolveWaiting = (((s.withWaiting [.done n d]).departCtrl l c).withWaiting []).takeWaiting (.done n d) := by
  simp only [List.mem_cons, List.not_mem_nil, or_false] at hw
  have horder : s.waitingOrder = [.departure l c, .done n d] := by
    rcases hw with hw | hw <;> simp [State.waitingOrder, hw, hm, State.linkOfDone, hx, hl]
  have hmem : .departure l c ∈ s.waiting := by
    rcases hw with hw | hw <;> simp [hw]
  have hrest : s.waiting.erase (.departure l c) = [.done n d] := by
    rcases hw with hw | hw <;> simp [hw]
  have htransits := transits_departCtrl (s.withWaiting [.done n d]) l c
  have hwait : ((s.withWaiting [.done n d]).departCtrl l c).waiting = [.done n d] := congrArg Prod.fst htransits
  have hready : ((s.withWaiting [.done n d]).departCtrl l c).mustWait (.done n d) = false :=
    (inTransit_of_transits_eq (congrArg Prod.snd htransits) d.tag.index).trans ht
  rw [State.resolveWaiting, horder, List.foldl_cons, List.foldl_cons, List.foldl_nil, resolveOne_of_ready hmem hm,
    hrest, takeWaiting_departure, resolveOne_of_ready (by simp [hwait]) hready, hwait, List.erase_cons_head]

/-! ## What each cause does -/

theorem isEnded_iff {x : Exchange} : x.isEnded = true ↔ ∃ r, x.phase = .held r ∨ x.phase = .released r := by
  rcases x with ⟨id, phase⟩
  cases phase <;> simp [Exchange.isEnded]

theorem takeAbort_of_untagged {s : State} {l : CtrlIx} {tag : Byte} (h : s.tagged l tag = none) :
    s.takeAbort l tag = s.queueReply l (.reply tag .abort .unknown []) := by
  simp [State.takeAbort, h]

theorem takeAbort_of_tagged {s : State} {l : CtrlIx} {tag : Byte} {j : XtIx} (h : s.tagged l tag = some j) :
    s.takeAbort l tag = (s.abortEntry j).1.queueReply l (.reply tag .abort (s.abortEntry j).2 []) := by
  simp [State.takeAbort, h]

/-- An ABORT of a sent exchange makes it CANCELLING, with a CANCEL queued and a waiting KEEP withdrawn (R93). -/
theorem abortEntry_of_sent {s : State} {i : XtIx} {x : Exchange} {sp : RespSpace} {d : Nat}
    (hx : s.exchange i = some x) (hp : x.phase = .active none sp d) :
    s.abortEntry i = ((s.setEntry i { s.entry i with live := some { x with
      phase := .cancelling sp d .active } }).onSlot x.id.slot fun b =>
        { b with sendQ := b.sendQ ++ [SlotFrame.cancel (s.relayTag i)] }.withdraw (.keep (s.relayTag i)), .taken) := by
  simp only [State.abortEntry, hx, hp, State.toCancelling, setPhase_of_exchange hx, State.queueSend,
    State.withdrawSend, onSlot_onSlot]

theorem abortEntry_of_ended {s : State} {i : XtIx} {x : Exchange} (hx : s.exchange i = some x)
    (he : x.isEnded = true) : s.abortEntry i = (s, .tooLate) := by
  obtain ⟨r, hp | hp⟩ := isEnded_iff.mp he <;> simp [State.abortEntry, hx, hp]

theorem takeDeadline_of_sent {s : State} {i : XtIx} {x : Exchange} {sp : RespSpace} {d : Nat}
    (hx : s.exchange i = some x) (hp : x.phase = .active none sp d) :
    s.takeDeadline i
      = (s.queueSend x.id.slot (.cancel (s.relayTag i))).endExchange i (.relay .timeout) true := by
  simp [State.takeDeadline, hx, hp, State.queueCancel, Exchange.orphans]

theorem takeDeadline_of_ended {s : State} {i : XtIx} (h : ∀ x, s.exchange i = some x → x.isEnded = true) :
    s.takeDeadline i = s := by
  rcases exchange_eq_none_or_some s i with hx | ⟨x, hx⟩
  · simp [State.takeDeadline, hx]
  · obtain ⟨r, hp | hp⟩ := isEnded_iff.mp (h x hx) <;> simp [State.takeDeadline, hx, hp]

/-- A DONE of a sent exchange ends it (R58, R59). -/
theorem takeDone_of_sent {s : State} {n : SlotIx} {d : DoneFrame} {x : Exchange} {sp : RespSpace} {e : Nat}
    (hx : s.exchange d.tag.index = some x) (hn : s.tagNames n d.tag x = true) (hp : x.phase = .active none sp e) :
    s.takeDone n d = s.endExchange d.tag.index
      (if x.id.maxResp < d.payload.length then .relay .slotOverrun else d.answer sp false) false := by
  have hentry : s.doneEntry n d.tag = some x :=
    doneEntry_eq_some_iff.mpr ⟨hx, hn, by simp [Exchange.position, hp]⟩
  rw [takeDone_of_entry hentry (sp := sp) (by simp [Exchange.respSpace, hp]), doneResponse_of_active hp]

theorem doneEntry_eq_none_of_ended {s : State} {n : SlotIx} {t : RelayTag}
    (h : ∀ x, s.exchange t.index = some x → x.isEnded = true) : s.doneEntry n t = none :=
  doneEntry_eq_none_iff.mpr fun x hx _ => Bool.eq_false_iff.mpr fun hpos => by
    obtain ⟨hlive, _⟩ := position_isSome_iff.mp hpos
    exact absurd (h x hx) (by simp [hlive])

theorem takeOrphanExpiry_of_orphan {s : State} {n : SlotIx} {t : RelayTag} (h : (s.slot n).orphan t ≠ none) :
    s.takeOrphanExpiry n t = (s.removeOrphan n t).faultSlot n .orphanExpired := by
  obtain ⟨o, ho⟩ := Option.ne_none_iff_exists'.mp h
  simp [State.takeOrphanExpiry, ho]

theorem takeOrphanExpiry_of_no_orphan {s : State} {n : SlotIx} {t : RelayTag} (h : (s.slot n).orphan t = none) :
    s.takeOrphanExpiry n t = s := by
  simp [State.takeOrphanExpiry, h]

/-- A SLOT_RESET of the manager on a slot that is not RESETTING resets it (R136). -/
theorem takeSlotReset_of_not_resetting {s : State} {l : CtrlIx} {tag : Byte} {n : SlotIx}
    (hm : s.isManager l = true) (h : s.slotResetLow n = false) :
    s.takeSlotReset l tag n = (s.resetSlot n).answer l tag .ok [] := by
  simp [State.takeSlotReset, hm, h]

theorem takeSlotReset_of_resetting {s : State} {l : CtrlIx} {tag : Byte} {n : SlotIx} {p : Nat}
    (hm : s.isManager l = true) (h : (s.slot n).state = .resetting p) :
    s.takeSlotReset l tag n = s.answer l tag .wrongState [] := by
  simp [State.takeSlotReset, hm, State.slotResetLow, h]

theorem startPulse_eq (s : State) (n : SlotIx) :
    s.startPulse n = s.onSlot n fun b => { b with state := .resetting (s.now + 100000) } := rfl

theorem resetSlot_of_online {s : State} {n : SlotIx} (h : (s.slot n).state = .online) :
    s.resetSlot n = ((s.endSlotWork n .slotReset).onSlot n fun b =>
      { b with state := .resetting (s.now + 100000) }).clearReservation n .slotReset := by
  have hnow : (s.endSlotWork n .slotReset).now = s.now := congrArg Prod.fst (ground_endSlotWork s n .slotReset)
  rw [State.resetSlot, if_pos h, startPulse_eq, hnow]

theorem resetSlot_of_not_online {s : State} {n : SlotIx} (h : (s.slot n).state ≠ .online) :
    s.resetSlot n = (s.onSlot n fun b =>
      { b with state := .resetting (s.now + 100000) }).clearReservation n .slotReset := by
  rw [State.resetSlot, if_neg h, startPulse_eq]

/-- Settles O42: the ISSUE's own effects, and then each cause against its rule. -/
theorem issueSentReturnsCommandBlocks : Obligations.IssueSentReturnsCommandBlocks := by
  refine ⟨fun n s => ⟨?_, execIssueSent_of_not_sending⟩, ?_⟩
  · intro t rest x c sp d hs hq hx hp u
    have hu : (s.onSlot n (·.sent)).markSent t.index = u := by
      have hsent : s.onSlot n (·.sent) = s.onSlot n fun b =>
          { b with sendQ := rest, link := { b.link with sending := none } } :=
        onSlot_congr s n (sent_of_sendingHead hs hq)
      rw [hsent]
      exact markSent_of_active (s := s.onSlot n _) hx hp
    exact ⟨by rw [exec_issueSent, execIssueSent_of_sending hs, hu], fun hw => resolveWaiting_of_none (s := u) hw⟩
  intro s answered
  refine ⟨?_, ?_, ?_, ?_, ?_, ?_, ?_, ?_, ?_, ?_, ?_, ?_⟩
  -- which causes still wait
  · exact fun i => inTransit_iff_sending
  · intro w
    cases w with
    | abort | deadline | done => exact inTransit_iff_sending
    | departure | restart | slotReset | faultFrame | orphanExpired =>
      simp [State.mustWait, transitReached_iff_sending, WaitingCause.reaches]
  -- the order
  · intro h
    simp only [resolveWaiting_of_no_departure h, ← resolveOne_eq]
  · exact fun l c tag i => resolveWaiting_of_departure
  · exact fun l c n d x => resolveWaiting_of_departure_done
  -- ABORT
  · refine fun l tag i => ⟨takeAbort_of_untagged, fun j x hj hx => ⟨fun sp d hp => ?_, fun he => ?_⟩⟩
    · rw [State.takeWaiting, takeAbort_of_tagged hj, abortEntry_of_sent hx hp]
      rfl
    · rw [State.takeWaiting, takeAbort_of_tagged hj, abortEntry_of_ended hx he]
      rfl
  -- deadline expiry
  · exact fun i => ⟨fun x sp d hx hp => takeDeadline_of_sent hx hp, takeDeadline_of_ended⟩
  -- DONE
  · refine fun n d => ⟨fun x sp e hx hn hg hp => takeDone_of_sent hx (tagNames_iff.mpr ⟨hn, hg⟩) hp, fun h => ?_⟩
    have hnone : s.doneEntry n d.tag = none := doneEntry_eq_none_of_ended h
    refine ⟨fun ho => ?_, fun ho => takeDone_discarded hnone (orphan_eq_none_iff.mpr ho)⟩
    rw [State.takeWaiting, takeDone_of_orphan hnone (orphan_ne_none_iff.mpr ho), removeOrphan_eq]
  -- departure and FAULT
  · exact takeWaiting_departure s
  · exact fun n code => rfl
  -- orphan expiry
  · refine fun n t => ⟨fun h => ?_, takeOrphanExpiry_of_no_orphan⟩
    rw [State.takeWaiting, takeOrphanExpiry_of_orphan h, removeOrphan_eq]
  -- SLOT_RESET
  · intro l tag n hm
    refine ⟨fun h => ?_, fun h => ?_, fun p h => takeSlotReset_of_resetting hm h⟩
    · rw [State.takeWaiting, takeSlotReset_of_not_resetting hm (by simp [State.slotResetLow, h]), resetSlot_of_online h]
      rfl
    · have hidle : s.slotResetLow n = false ∧ (s.slot n).state ≠ .online := by
        rcases h with h | ⟨w, h⟩ <;> simp [State.slotResetLow, h]
      rw [State.takeWaiting, takeSlotReset_of_not_resetting hm hidle.1, resetSlot_of_not_online hidle.2]
      rfl

end Sys2Proof.Machine
end

section
/-! PROOFS. The buffer stores (Section 4, R66 and R68): the pools, what an exchange holds of each, and the rule by which
a change of one entry keeps the sums of the pools. -/

namespace Sys2Proof.Machine

open Sys2Proof

/-! ## The pools -/

/-- The Command Store, and the pools of the Response Store: link l's reserve, or (none) the general pool. -/
inductive StorePool
  | command
  | response (l : Option CtrlIx)

/-- All the blocks of a pool (R65). -/
def StorePool.size : StorePool → Nat
  | .command => 128
  | .response none => 112
  | .response (some _) => 4

/-- The pool that a reservation of an entry of link l is taken from. -/
def Pool.of (l : CtrlIx) : Pool → StorePool
  | .general => .response none
  | .reserve => .response (some l)

/-- The free blocks of a pool. -/
def State.free (s : State) : StorePool → Nat
  | .command => s.cmdFree
  | .response none => s.generalFree
  | .response (some l) => s.reserve l

/-- The blocks that an entry holds of a pool. -/
def Entry.held (e : Entry) : StorePool → Nat
  | .command => e.cmdBlocks
  | .response l => e.respBlocks l

/-- The command blocks of an exchange, as blocks of a pool. -/
def CmdSpace.blocksOf (c : CmdSpace) : StorePool → Nat
  | .command => c.blocks
  | .response _ => 0

/-- All but `kept` blocks of the response reservation of an exchange of link l, as blocks of a pool. -/
def RespSpace.blocksOf (r : RespSpace) (l : CtrlIx) (kept : Nat) : StorePool → Nat
  | .command => 0
  | .response none => if r.pool = .general then r.blocks - kept else 0
  | .response (some m) => if r.pool = .reserve ∧ l = m then r.blocks - kept else 0

/-- The blocks that an exchange gives back to a pool when it keeps some of its response reservation. -/
def Exchange.returns (x : Exchange) (kept : Nat) (p : StorePool) : Nat :=
  x.cmdSpace.elim 0 (·.blocksOf p) + x.respSpace.elim 0 (·.blocksOf x.id.link kept p)

theorem held_of_free {e : Entry} (h : e.live = none) (p : StorePool) : e.held p = 0 := by
  cases p <;> simp [Entry.held, Entry.cmdBlocks, Entry.respBlocks, h]

/-- A live entry holds what its exchange would give back if it kept nothing. -/
theorem held_of_live {e : Entry} {x : Exchange} (h : e.live = some x) (p : StorePool) : e.held p = x.returns 0 p := by
  unfold Exchange.returns
  cases p with
  | command =>
    simp only [Entry.held, Entry.cmdBlocks, h]
    cases x.cmdSpace <;> cases x.respSpace <;> rfl
  | response l =>
    simp only [Entry.held, Entry.respBlocks, h]
    cases x.cmdSpace <;> rcases x.respSpace with _ | ⟨b, _ | _⟩ <;> cases l <;>
      simp [CmdSpace.blocksOf, RespSpace.blocksOf]

/-! ## The invariant, pool by pool -/

theorem sum_entries (s : State) (f : Entry → Nat) : (s.entries.toList.map f).sum = ∑ i, f (s.entry i) := by
  rw [entries_toList, List.map_map, Fin.sum_univ_def]
  rfl

/-- The stores are in order: each pool is whole, a reserve has one holder, and each reservation is its need. -/
theorem storesOk_iff {s : State} :
    s.storesOk ↔ (∀ p, s.free p + ∑ i, (s.entry i).held p = p.size)
      ∧ (∀ l i j, 0 < (s.entry i).respBlocks (some l) → 0 < (s.entry j).respBlocks (some l) → i = j)
      ∧ ∀ i x, s.exchange i = some x → x.spaceOk = true := by
  have hspace : (∀ i, s.exchangeIs i (fun x => !x.spaceOk) = false)
      ↔ ∀ i x, s.exchange i = some x → x.spaceOk = true := by
    refine forall_congr' fun i => ?_
    unfold State.exchangeIs
    rcases exchange_eq_none_or_some s i with he | ⟨x, he⟩ <;> simp [he]
  have hpools : (∀ p, s.free p + ∑ i, (s.entry i).held p = p.size)
      ↔ s.cmdTotal = 128 ∧ s.generalTotal = 112 ∧ ∀ l, s.reserveTotal l = 4 := by
    simp only [State.cmdTotal, State.generalTotal, State.reserveTotal, sum_entries]
    refine ⟨fun h => ⟨h .command, h (.response none), fun l => h (.response (some l))⟩, ?_⟩
    rintro ⟨hc, hg, hr⟩ (_ | _ | l)
    exacts [hc, hg, hr l]
  rw [hpools, ← hspace]
  simp only [State.storesOk, and_assoc]

theorem spaceOk_of_exchange {s : State} (h : s.storesOk) {i : XtIx} {x : Exchange} (hx : s.exchange i = some x) :
    x.spaceOk = true :=
  (storesOk_iff.mp h).2.2 i x hx

/-- Of a free reserve no entry holds a block (R68). -/
theorem respBlocks_eq_zero_of_reserve_free {s : State} (h : s.storesOk) {l : CtrlIx} (hl : s.reserve l = 4)
    (i : XtIx) : (s.entry i).respBlocks (some l) = 0 := by
  have hpool : s.reserve l + ∑ j, (s.entry j).respBlocks (some l) = 4 := (storesOk_iff.mp h).1 (.response (some l))
  have hsum : ∑ j, (s.entry j).respBlocks (some l) = 0 := by omega
  exact Finset.sum_eq_zero_iff.mp hsum i (Finset.mem_univ i)

/-- The stores stay in order where one entry changes and every pool gives it what it holds more or takes back what it
holds less, if the entry holds more of a reserve than before only where that reserve was free. -/
theorem storesOk_of_entry_changed {s t : State} {i : XtIx} (h : s.storesOk)
    (hothers : ∀ j, j ≠ i → t.entry j = s.entry j)
    (hfree : ∀ p, t.free p + (t.entry i).held p = s.free p + (s.entry i).held p)
    (hreserve : ∀ l, (t.entry i).respBlocks (some l) ≤ (s.entry i).respBlocks (some l) ∨ s.reserve l = 4)
    (hspace : ∀ x, t.exchange i = some x → x.spaceOk = true) : t.storesOk := by
  obtain ⟨hpools, hone, hspaces⟩ := storesOk_iff.mp h
  have holder : ∀ l j, j ≠ i → 0 < (t.entry i).respBlocks (some l) → 0 < (t.entry j).respBlocks (some l) → False := by
    intro l j hj hi' hj'
    rw [hothers j hj] at hj'
    rcases hreserve l with hle | hfour
    · exact hj (hone l j i hj' (by omega))
    · exact absurd (respBlocks_eq_zero_of_reserve_free h hfour j) (by omega)
  refine storesOk_iff.mpr ⟨fun p => ?_, fun l j k hj hk => ?_, fun j x hx => ?_⟩
  · have hrest : ∑ j ∈ Finset.univ.erase i, (t.entry j).held p = ∑ j ∈ Finset.univ.erase i, (s.entry j).held p :=
      Finset.sum_congr rfl fun j hj => by rw [hothers j (Finset.ne_of_mem_erase hj)]
    have hs := hpools p
    have hf := hfree p
    rw [← Finset.add_sum_erase _ _ (Finset.mem_univ i)] at hs ⊢
    omega
  · by_cases hji : j = i <;> by_cases hki : k = i
    · rw [hji, hki]
    · exact (holder l k hki (hji ▸ hj) hk).elim
    · exact (holder l j hji (hki ▸ hk) hj).elim
    · rw [hothers j hji] at hj
      rw [hothers k hki] at hk
      exact hone l j k hj hk
  · by_cases hji : j = i
    · exact hspace x (hji ▸ hx)
    · exact hspaces j x (by rwa [State.exchange, hothers j hji] at hx)

/-! ## What leaves the stores alone -/

/-- The parts of the state that the invariant of the stores reads. -/
def State.stores (s : State) : Vector Entry 64 × Nat × Nat × Vector Nat 4 :=
  (s.entries, s.cmdFree, s.generalFree, s.reserveFree)

theorem stores_eq_iff {s t : State} : t.stores = s.stores ↔ t.entries = s.entries ∧ t.cmdFree = s.cmdFree
    ∧ t.generalFree = s.generalFree ∧ t.reserveFree = s.reserveFree := by
  simp [State.stores]

theorem entry_of_stores_eq {s t : State} (h : t.stores = s.stores) (i : XtIx) : t.entry i = s.entry i := by
  simp [State.entry, (stores_eq_iff.mp h).1]

theorem free_of_stores_eq {s t : State} (h : t.stores = s.stores) (p : StorePool) : t.free p = s.free p := by
  obtain ⟨-, hc, hg, hr⟩ := stores_eq_iff.mp h
  rcases p with _ | _ | l <;> simp [State.free, State.reserve, hc, hg, hr]

theorem storesOk_of_stores_eq {s t : State} (hs : s.storesOk) (h : t.stores = s.stores) : t.storesOk :=
  storesOk_of_entry_changed (i := 0) hs (fun j _ => entry_of_stores_eq h j)
    (fun p => by rw [entry_of_stores_eq h, free_of_stores_eq h])
    (fun l => .inl (by rw [entry_of_stores_eq h]))
    (fun x hx => spaceOk_of_exchange hs (by rwa [State.exchange, entry_of_stores_eq h] at hx))

@[simp] theorem stores_onCtrl (s : State) (l : CtrlIx) (f : CtrlBlock → CtrlBlock) :
    (s.onCtrl l f).stores = s.stores := rfl
@[simp] theorem stores_onSlot (s : State) (n : SlotIx) (f : SlotBlock → SlotBlock) :
    (s.onSlot n f).stores = s.stores := rfl
@[simp] theorem stores_onLink (s : State) (k : LinkId) (f : LinkBlock → LinkBlock) :
    (s.onLink k f).stores = s.stores := by cases k <;> rfl
@[simp] theorem stores_atTime (s : State) (t : Nat) : (s.atTime t).stores = s.stores := rfl
@[simp] theorem stores_withWaiting (s : State) (ws : List WaitingCause) : (s.withWaiting ws).stores = s.stores := rfl
@[simp] theorem stores_settle (s : State) : s.settle.stores = s.stores := rfl
@[simp] theorem stores_queueSend (s : State) (n : SlotIx) (f : SlotFrame) : (s.queueSend n f).stores = s.stores := rfl
@[simp] theorem stores_withdrawSend (s : State) (n : SlotIx) (f : SlotFrame) :
    (s.withdrawSend n f).stores = s.stores := rfl
@[simp] theorem stores_leaveSlotQueue (s : State) (n : SlotIx) (i : XtIx) :
    (s.leaveSlotQueue n i).stores = s.stores := rfl
@[simp] theorem stores_queueReply (s : State) (l : CtrlIx) (r : ReplyItem) : (s.queueReply l r).stores = s.stores := rfl
@[simp] theorem stores_answer (s : State) (l : CtrlIx) (tag : Byte) (r : ReplyResult) (d : List Byte) :
    (s.answer l tag r d).stores = s.stores := rfl
@[simp] theorem stores_answerResv (s : State) (l : CtrlIx) (tag : Byte) (r : ReplyResult) (d : List Byte) :
    (s.answerResv l tag r d).stores = s.stores := rfl
@[simp] theorem stores_addOrphan (s : State) (n : SlotIx) (t : RelayTag) (p : Position) :
    (s.addOrphan n t p).stores = s.stores := rfl
@[simp] theorem stores_removeOrphan (s : State) (n : SlotIx) (t : RelayTag) :
    (s.removeOrphan n t).stores = s.stores := rfl
@[simp] theorem stores_setSlotState (s : State) (n : SlotIx) (st : SlotState) :
    (s.setSlotState n st).stores = s.stores := rfl
@[simp] theorem stores_onResv (s : State) (n : SlotIx) (f : Reservation → Reservation) :
    (s.onResv n f).stores = s.stores := rfl
@[simp] theorem stores_startLease (s : State) (n : SlotIx) : (s.startLease n).stores = s.stores := rfl
@[simp] theorem stores_makeHolder (s : State) (n : SlotIx) (l : CtrlIx) : (s.makeHolder n l).stores = s.stores := rfl
@[simp] theorem stores_startPulse (s : State) (n : SlotIx) : (s.startPulse n).stores = s.stores := rfl
@[simp] theorem stores_tookFrame (s : State) (l : CtrlIx) : (s.tookFrame l).stores = s.stores := rfl
@[simp] theorem stores_tookSlotFrame (s : State) (n : SlotIx) : (s.tookSlotFrame n).stores = s.stores := rfl
@[simp] theorem stores_endOffer (s : State) (l : CtrlIx) : (s.endOffer l).stores = s.stores := rfl
@[simp] theorem stores_notify (s : State) (l : CtrlIx) (k : NoticeKind) (a : Byte) (c : NoticeCause) (d : List Byte) :
    (s.notify l k a c d).stores = s.stores := rfl

@[simp] theorem stores_notifyManager (s : State) (k : NoticeKind) (a : Byte) (c : NoticeCause) (d : List Byte) :
    (s.notifyManager k a c d).stores = s.stores := by
  simp only [State.notifyManager]; split <;> rfl

@[simp] theorem stores_queueCancel (s : State) (t : RelayTag) (x : Exchange) :
    (s.queueCancel t x).stores = s.stores := by
  simp only [State.queueCancel]; split <;> rfl

@[simp] theorem stores_clearReservation (s : State) (n : SlotIx) (c : NoticeCause) :
    (s.clearReservation n c).stores = s.stores := by
  simp only [State.clearReservation, stores_onResv]
  rw [foldl_keeps _ State.stores fun u l => stores_notify u l _ _ _ _]
  split <;> rfl

@[simp] theorem stores_slotLinkUp (s : State) (n : SlotIx) : (s.slotLinkUp n).stores = s.stores := by
  simp only [State.slotLinkUp]; split <;> simp

@[simp] theorem stores_linkEntersUp (s : State) (k : LinkId) (size : Nat) :
    (s.linkEntersUp k size).stores = s.stores := by
  cases k <;> simp [State.linkEntersUp]

@[simp] theorem stores_escalate (s : State) (n : SlotIx) : (s.escalate n).stores = s.stores := by
  simp [State.escalate]

@[simp] theorem stores_announce (s : State) (m l : CtrlIx) : (s.announce m l).stores = s.stores := by
  simp only [State.announce]; split <;> rfl

@[simp] theorem stores_acknowledge (s : State) (id : Byte) (n : SlotIx) : (s.acknowledge id n).stores = s.stores := by
  simp only [State.acknowledge]; split <;> rfl

@[simp] theorem stores_clearSlot (s : State) (n : SlotIx) : (s.clearSlot n).stores = s.stores := by
  simp only [State.clearSlot]; split <;> simp

/-! ## Changes of one entry -/

theorem free_setEntry (s : State) (i : XtIx) (e : Entry) (p : StorePool) : (s.setEntry i e).free p = s.free p := by
  rcases p with _ | _ | l <;> rfl

/-- The stores stay in order where a state with the entries of s gets a new entry and the pools agree with it. -/
theorem storesOk_setEntry {s u : State} {i : XtIx} {e : Entry} (h : s.storesOk) (hu : u.entries = s.entries)
    (hfree : ∀ p, u.free p + e.held p = s.free p + (s.entry i).held p)
    (hreserve : ∀ l, e.respBlocks (some l) ≤ (s.entry i).respBlocks (some l) ∨ s.reserve l = 4)
    (hspace : ∀ x, e.live = some x → x.spaceOk = true) : (u.setEntry i e).storesOk := by
  have hentry : ∀ j, u.entry j = s.entry j := fun j => by simp [State.entry, hu]
  refine storesOk_of_entry_changed h (i := i) (fun j hj => ?_) (fun p => ?_) (fun l => ?_) fun x hx => ?_
  · rw [entry_setEntry_ne u e hj.symm, hentry]
  · rw [free_setEntry, entry_setEntry_self, hfree]
  · rw [entry_setEntry_self]
    exact hreserve l
  · rw [exchange_setEntry_self] at hx
    exact hspace x hx

/-- As `storesOk_setEntry`, where the entry holds no more of any pool than before. -/
theorem storesOk_setEntry_of_returned {s u : State} {i : XtIx} {e : Entry} (h : s.storesOk)
    (hu : u.entries = s.entries) (hfree : ∀ p, u.free p + e.held p = s.free p + (s.entry i).held p)
    (hle : ∀ p, s.free p ≤ u.free p) (hspace : ∀ x, e.live = some x → x.spaceOk = true) :
    (u.setEntry i e).storesOk := by
  refine storesOk_setEntry h hu hfree (fun l => .inl ?_) hspace
  have heq : u.free (.response (some l)) + e.respBlocks (some l)
      = s.free (.response (some l)) + (s.entry i).respBlocks (some l) := hfree (.response (some l))
  have := hle (.response (some l))
  omega

end Sys2Proof.Machine
end

section
/-! PROOFS. The operations that move blocks (R66 to R70): admission, issue, the end of a transit, endings and the
freeing of an entry each keep the stores in order. -/

namespace Sys2Proof.Machine

open Sys2Proof

/-! ## Taking and returning blocks -/

theorem free_returnCmd (s : State) (c : Option CmdSpace) (p : StorePool) :
    (s.returnCmd c).free p = s.free p + c.elim 0 (·.blocksOf p) := by
  cases c <;> rcases p with _ | _ | l <;> rfl

theorem free_returnResp (s : State) (l : CtrlIx) (r : RespSpace) (kept : Nat) (p : StorePool) :
    (s.returnResp l r.pool (r.blocks - kept)).free p = s.free p + r.blocksOf l kept p := by
  obtain ⟨b, _ | _⟩ := r
  · rcases p with _ | _ | m <;> rfl
  · rcases p with _ | _ | m
    · rfl
    · rfl
    · by_cases hm : l = m
      · subst hm
        simp [State.free, State.returnResp, RespSpace.blocksOf]
      · simp [State.free, State.returnResp, RespSpace.blocksOf, hm]

/-- What is taken of a pool with enough free blocks is what is missing of it afterwards. -/
theorem free_takeResp {s : State} {l : CtrlIx} {pool : Pool} {k : Nat} (hk : k ≤ s.free (pool.of l)) (p : StorePool) :
    (s.takeResp l pool k).free p + RespSpace.blocksOf ⟨k, pool⟩ l 0 p = s.free p := by
  cases pool with
  | general =>
    rcases p with _ | _ | m
    · rfl
    · exact Nat.sub_add_cancel (show k ≤ s.generalFree from hk)
    · rfl
  | reserve =>
    rcases p with _ | _ | m
    · rfl
    · rfl
    · by_cases hm : l = m
      · subst hm
        simpa [State.free, State.takeResp, RespSpace.blocksOf] using Nat.sub_add_cancel (show k ≤ s.reserve l from hk)
      · simp [State.free, State.takeResp, RespSpace.blocksOf, hm]

theorem entries_returnCmd (s : State) (c : Option CmdSpace) : (s.returnCmd c).entries = s.entries := by
  cases c <;> rfl

theorem entries_returnResp (s : State) (l : CtrlIx) (pool : Pool) (k : Nat) :
    (s.returnResp l pool k).entries = s.entries := by
  cases pool <;> rfl

theorem entries_takeResp (s : State) (l : CtrlIx) (pool : Pool) (k : Nat) :
    (s.takeResp l pool k).entries = s.entries := by
  cases pool <;> rfl

/-- The slot side of an exchange without what its Slot Queue, Slot Send Queue and Orphan Set lose and gain. -/
theorem stores_closeSlotSide (s : State) (i : XtIx) (x : Exchange) (kept : Nat) (o : Option Position) :
    (s.closeSlotSide i x kept o).stores
      = (x.respSpace.elim (s.returnCmd x.cmdSpace) fun r =>
          (s.returnCmd x.cmdSpace).returnResp x.id.link r.pool (r.blocks - kept)).stores := by
  simp only [State.closeSlotSide]
  cases o <;> cases x.respSpace <;> simp

theorem entries_closeSlotSide (s : State) (i : XtIx) (x : Exchange) (kept : Nat) (o : Option Position) :
    (s.closeSlotSide i x kept o).entries = s.entries := by
  rw [(stores_eq_iff.mp (stores_closeSlotSide s i x kept o)).1]
  cases x.respSpace <;> simp [entries_returnCmd, entries_returnResp]

/-- Every pool gets what the exchange does not keep of it. -/
theorem free_closeSlotSide (s : State) (i : XtIx) (x : Exchange) (kept : Nat) (o : Option Position) (p : StorePool) :
    (s.closeSlotSide i x kept o).free p = s.free p + x.returns kept p := by
  rw [free_of_stores_eq (stores_closeSlotSide s i x kept o)]
  unfold Exchange.returns
  cases x.respSpace with
  | none => simp [free_returnCmd]
  | some r => simp [free_returnCmd, free_returnResp, Nat.add_assoc]

/-! ## Exchanges that hold the same blocks -/

/-- The exchange in another phase. -/
abbrev Exchange.withPhase (x : Exchange) (ph : Phase) : Exchange := { x with phase := ph }

theorem spaceOk_iff {x : Exchange} : x.spaceOk = true ↔ x.id.maxResp ≤ 256
    ∧ (x.isEnded = false → ∀ r, x.respSpace = some r → r.blocks = x.need) := by
  rcases x with ⟨id, ph⟩
  cases ph <;> simp [Exchange.spaceOk, Exchange.isEnded, Exchange.respSpace, Exchange.need]

theorem need_le_four {x : Exchange} (h : x.spaceOk = true) : x.need ≤ 4 := by
  have := (spaceOk_iff.mp h).1
  unfold Exchange.need blockCount Config.blockBytes
  omega

/-- A change of phase that moves no block and does not begin to count the reservation by the need. -/
theorem storesOk_setPhase_of_same_space {s : State} {i : XtIx} {x : Exchange} {ph : Phase} (h : s.storesOk)
    (hx : s.exchange i = some x) (hcmd : (x.withPhase ph).cmdSpace = x.cmdSpace)
    (hresp : (x.withPhase ph).respSpace = x.respSpace)
    (hended : x.isEnded = true → (x.withPhase ph).isEnded = true) : (s.setPhase i ph).storesOk := by
  rw [setPhase_of_exchange hx]
  refine storesOk_setEntry_of_returned h rfl (fun p => ?_) (fun p => le_rfl) ?_
  · rw [held_of_live hx, held_of_live (x := x.withPhase ph) rfl]
    simp only [Exchange.returns, hcmd, hresp]
  · rintro y hy
    obtain ⟨hmax, hneed⟩ := spaceOk_iff.mp (spaceOk_of_exchange h hx)
    cases hy
    refine spaceOk_iff.mpr ⟨hmax, fun he r hr => hneed ?_ r (hresp ▸ hr)⟩
    exact Bool.eq_false_iff.mpr fun hxe => absurd (hended hxe) (by simp [he])

theorem storesOk_release_of_held {s : State} {i : XtIx} {x : Exchange} {r : Response} (h : s.storesOk)
    (hx : s.exchange i = some x) (hp : x.phase = .held r) (l : CtrlIx) : (s.release l i r).storesOk := by
  have hset : (s.setPhase i (.released r)).storesOk := storesOk_setPhase_of_same_space h hx
    (by simp [Exchange.cmdSpace, hp]) (by cases r <;> simp [Exchange.respSpace, hp]) fun _ => rfl
  exact storesOk_of_stores_eq hset (stores_onCtrl _ _ _)

theorem storesOk_releaseHeld {s : State} (h : s.storesOk) (l : CtrlIx) (i : XtIx) : (s.releaseHeld l i).storesOk := by
  unfold State.releaseHeld
  split
  next x hx =>
    split
    next r hp => exact storesOk_release_of_held h hx hp l
    next => exact h
  next => exact h

theorem storesOk_cascade {s : State} (h : s.storesOk) (l : CtrlIx) : (s.cascade l).storesOk :=
  List.foldlRecOn _ _ (storesOk_of_stores_eq h (stores_onCtrl _ _ _)) fun _ hu i _ => storesOk_releaseHeld hu l i

/-! ## Endings (R70) -/

/-- A response that x can end with: its own, from a reservation of the same pool no larger than that of x, or the
relay's. -/
def Response.fits (x : Exchange) : Response → Prop
  | .slot a => ∃ sp, x.respSpace = some sp ∧ a.space.pool = sp.pool ∧ a.space.blocks ≤ sp.blocks
  | .relay _ => True

theorem fits_relay (x : Exchange) (code : RelayCode) : (Response.relay code).fits x := True.intro

theorem isEnded_of_phase {x : Exchange} {r : Response} (h : x.phase = .held r ∨ x.phase = .released r) :
    x.isEnded = true := by
  rcases h with h | h <;> simp [Exchange.isEnded, h]

/-- What an ended exchange holds and what its ending gave back are together what it held before. -/
theorem returns_add_returns_of_ended {x y : Exchange} {r : Response} (hfits : r.fits x) (hid : y.id = x.id)
    (hy : y.phase = .held r ∨ y.phase = .released r) (p : StorePool) :
    y.returns 0 p + x.returns r.keptBlocks p = x.returns 0 p := by
  have hcmd : y.cmdSpace = none := by rcases hy with hy | hy <;> simp [Exchange.cmdSpace, hy]
  cases r with
  | relay code =>
    have hresp : y.respSpace = none := by rcases hy with hy | hy <;> simp [Exchange.respSpace, hy]
    simp [Exchange.returns, hcmd, hresp, Response.keptBlocks]
  | slot a =>
    obtain ⟨sp, hsp, hpool, hle⟩ := hfits
    have hresp : y.respSpace = some a.space := by rcases hy with hy | hy <;> simp [Exchange.respSpace, hy]
    have hkept : a.space.blocksOf x.id.link 0 p + sp.blocksOf x.id.link a.space.blocks p
        = sp.blocksOf x.id.link 0 p := by
      rcases p with _ | _ | m <;> simp only [RespSpace.blocksOf, hpool] <;> split <;> omega
    simp only [Exchange.returns, hcmd, hresp, hsp, hid, Response.keptBlocks, Option.elim_some, Option.elim_none]
    omega

/-- An exchange of s takes its ended phase in a state to which it has given back what it does not keep. -/
theorem storesOk_setPhase_of_closed {s u : State} {i : XtIx} {x : Exchange} {r : Response} {ph : Phase}
    (h : s.storesOk) (hx : s.exchange i = some x) (hfits : r.fits x) (hu : u.entries = s.entries)
    (hfree : ∀ p, u.free p = s.free p + x.returns r.keptBlocks p) (hph : ph = .held r ∨ ph = .released r) :
    (u.setPhase i ph).storesOk := by
  have hxu : u.exchange i = some x := by rw [← hx, State.exchange, State.exchange, State.entry, State.entry, hu]
  rw [setPhase_of_exchange hxu]
  refine storesOk_setEntry_of_returned h hu (fun p => ?_) (fun p => by rw [hfree]; omega) ?_
  · have hsum := returns_add_returns_of_ended (y := x.withPhase ph) hfits rfl hph p
    rw [hfree, held_of_live hx, held_of_live (x := x.withPhase ph) rfl]
    omega
  · rintro y hy
    cases hy
    refine spaceOk_iff.mpr ⟨(spaceOk_iff.mp (spaceOk_of_exchange h hx)).1, fun he => ?_⟩
    exact absurd he (by simp [isEnded_of_phase (x := x.withPhase ph) hph])

/-- The Order Unit only places the response that it is handed. -/
theorem storesOk_handToOrderUnit {s : State} {i : XtIx} {x : Exchange} {r : Response}
    (h : ∀ ph, ph = .held r ∨ ph = .released r → (s.setPhase i ph).storesOk) :
    (s.handToOrderUnit i x r).storesOk := by
  have hrelease : (s.release x.id.link i r).storesOk :=
    storesOk_of_stores_eq (h _ (.inr rfl)) (stores_onCtrl _ _ _)
  unfold State.handToOrderUnit
  dsimp only
  split
  · split
    · exact storesOk_cascade (storesOk_of_stores_eq hrelease (stores_onCtrl _ _ _)) _
    · exact h _ (.inl rfl)
  · exact hrelease

/-- An ending keeps the stores in order, with a response that fits the exchange. -/
theorem storesOk_endExchange {s : State} {i : XtIx} {r : Response} (h : s.storesOk)
    (hfits : ∀ x, s.exchange i = some x → r.fits x) (orphan : Bool) : (s.endExchange i r orphan).storesOk := by
  unfold State.endExchange
  split
  next => exact h
  next x hx =>
    refine storesOk_handToOrderUnit fun ph hph => storesOk_setPhase_of_closed h hx (hfits x hx) ?_ (fun p => ?_) hph
    · cases orphan <;> exact entries_closeSlotSide _ _ _ _ _
    · cases orphan with
      | true => exact free_closeSlotSide _ _ _ _ _ _
      | false => exact (free_of_stores_eq (stores_withdrawSend _ _ _) p).trans (free_closeSlotSide _ _ _ _ _ _)

theorem storesOk_endExchange_relay {s : State} (h : s.storesOk) (i : XtIx) (code : RelayCode) (orphan : Bool) :
    (s.endExchange i (.relay code) orphan).storesOk :=
  storesOk_endExchange h (fun x _ => fits_relay x code) orphan

/-- An entry that becomes FREE gives back all that it holds (R86, R105). -/
theorem storesOk_freeEntry {s : State} {i : XtIx} {x : Exchange} (h : s.storesOk) (hx : s.exchange i = some x)
    (o : Option Position) : (s.freeEntry i x o).storesOk := by
  have hfree : ∀ p, (s.closeSlotSide i x 0 o).free p = s.free p + x.returns 0 p := free_closeSlotSide s i x 0 o
  refine storesOk_setEntry_of_returned (s := s) h (entries_closeSlotSide s i x 0 o) (fun p => ?_) (fun p => ?_) ?_
  · rw [held_of_free rfl, held_of_live hx]
    exact hfree p
  · exact (hfree p).symm ▸ Nat.le_add_right _ _
  · intro y hy
    cases hy

/-! ## Admission, issue, and the end of a transit (R67, R69, R49) -/

/-- An admitted CMD takes the blocks of its payload from the Command Store, on a FREE entry (R38). -/
theorem storesOk_admitCmd {s : State} {l : CtrlIx} {c : CmdFrame} {n : SlotIx} {i : XtIx} (h : s.storesOk)
    (hfreeEntry : s.exchange i = none) (hmax : c.maxResp ≤ 256) (hroom : blockCount c.payload.length ≤ s.cmdFree) :
    (s.admitCmd l c n i).storesOk := by
  have hresp : (s.admittedExchange l c n).respSpace = none := rfl
  suffices hentry : (({ s with cmdFree := s.cmdFree - blockCount c.payload.length } : State).setEntry i
      { s.entry i with live := some (s.admittedExchange l c n) }).storesOk from
    admitCmd_eq s l c n i ▸ storesOk_of_stores_eq hentry rfl
  refine storesOk_setEntry h rfl (fun p => ?_) (fun l' => .inl ?_) ?_
  · rw [held_of_live rfl, held_of_free hfreeEntry]
    cases p with
    | command => exact Nat.sub_add_cancel hroom
    | response l' => cases l' <;> rfl
  · simp [Entry.respBlocks, hresp]
  · rintro y hy
    cases hy
    exact spaceOk_iff.mpr ⟨hmax, fun _ r hr => by cases hr⟩

theorem issueExchange_of_not_queued {s : State} {i : XtIx}
    (h : ¬ ∃ x c, s.exchange i = some x ∧ x.phase = .queued c) (pool : Pool) : s.issueExchange i pool = s := by
  unfold State.issueExchange
  split
  next x hx =>
    split
    next c hp => exact absurd ⟨x, c, hx, hp⟩ h
    next => rfl
  next => rfl

/-- The issued exchange holds its need of the pool, and its command blocks as before. -/
theorem returns_issued {x : Exchange} {c : CmdSpace} (hp : x.phase = .queued c) (pool : Pool) (d : Nat)
    (p : StorePool) : (x.withPhase (.active (some c) ⟨x.need, pool⟩ d)).returns 0 p
      = RespSpace.blocksOf ⟨x.need, pool⟩ x.id.link 0 p + x.returns 0 p := by
  simp [Exchange.returns, Exchange.cmdSpace, Exchange.respSpace, hp, Nat.add_comm]

/-- The issued exchange holds blocks of no reserve but the one it was granted from. -/
theorem respBlocks_issued {x : Exchange} {c : CmdSpace} {d : Nat} {pool : Pool} {l : CtrlIx} (g : BitVec 2)
    (hl : pool = .reserve → x.id.link ≠ l) :
    Entry.respBlocks (some l) ⟨g, some (x.withPhase (.active (some c) ⟨x.need, pool⟩ d))⟩ = 0 := by
  cases pool with
  | general => rfl
  | reserve => exact if_neg (hl rfl)

/-- An issue takes the need of its exchange from a pool with room: the general pool, or a free reserve (R73 to R75). -/
theorem storesOk_issueExchange {s : State} {i : XtIx} {pool : Pool} (h : s.storesOk)
    (hroom : ∀ x, s.exchange i = some x → x.need ≤ s.free (pool.of x.id.link)
      ∧ (pool = .reserve → s.reserve x.id.link = 4)) : (s.issueExchange i pool).storesOk := by
  by_cases hq : ∃ x c, s.exchange i = some x ∧ x.phase = .queued c
  case neg => rwa [issueExchange_of_not_queued hq]
  obtain ⟨x, c, hx, hp⟩ := hq
  obtain ⟨hneed, hreserve⟩ := hroom x hx
  rw [issueExchange_of_queued hx hp, ← takeResp_setEntry_onSlot]
  refine storesOk_of_stores_eq (storesOk_setEntry h (entries_takeResp _ _ _ _) (fun p => ?_) (fun l => ?_) ?_)
    (stores_onSlot _ _ _)
  · rw [held_of_live rfl, held_of_live hx, returns_issued hp, ← Nat.add_assoc, free_takeResp hneed]
  · by_cases hl : pool = .reserve ∧ x.id.link = l
    · exact .inr (hl.2 ▸ hreserve hl.1)
    · exact .inl (by rw [respBlocks_issued _ fun hr hlink => hl ⟨hr, hlink⟩]; exact Nat.zero_le _)
  · rintro y hy
    cases hy
    exact spaceOk_iff.mpr ⟨(spaceOk_iff.mp (spaceOk_of_exchange h hx)).1, fun _ r hr => by cases hr; rfl⟩

/-- The entry of an ISSUE that has left holds its command blocks no more. -/
theorem returns_sent {x : Exchange} {c : CmdSpace} {sp : RespSpace} {d : Nat} (hp : x.phase = .active (some c) sp d)
    (p : StorePool) : c.blocksOf p + (x.withPhase (.active none sp d)).returns 0 p = x.returns 0 p := by
  simp [Exchange.returns, Exchange.cmdSpace, Exchange.respSpace, hp]

/-- An ISSUE that has left gives back the command blocks of its entry (R49). -/
theorem storesOk_markSent {s : State} (h : s.storesOk) (i : XtIx) : (s.markSent i).storesOk := by
  unfold State.markSent
  split
  next x hx =>
    split
    next c sp d hp =>
      have hx' : (s.returnCmd (some c)).exchange i = some x := hx
      have hfree := free_returnCmd s (some c)
      rw [setPhase_of_exchange hx']
      refine storesOk_setEntry_of_returned h (entries_returnCmd s (some c)) (fun p => ?_) (fun p => ?_) ?_
      · rw [held_of_live rfl, held_of_live hx, hfree, ← returns_sent hp, Nat.add_assoc]
        rfl
      · exact (hfree p).symm ▸ Nat.le_add_right _ _
      · rintro y hy
        cases hy
        obtain ⟨hmax, hneed⟩ := spaceOk_iff.mp (spaceOk_of_exchange h hx)
        have hsp : sp.blocks = x.need := hneed (by simp [Exchange.isEnded, hp]) sp (by simp [Exchange.respSpace, hp])
        exact spaceOk_iff.mpr ⟨hmax, fun _ r hr => by cases hr; exact hsp⟩
    next => exact h
  next => exact h

end Sys2Proof.Machine
end

section
/-! PROOFS. Every cause that is taken keeps the stores in order: the ends of a slot's work, preemption and hand-over,
ABORT, expiries, DONE, PARK, teardown, restart, departures, and the causes that have waited. -/

namespace Sys2Proof.Machine

open Sys2Proof

/-! ## Slots out of service, reservations (R119, R130, R136) -/

theorem storesOk_endForSlot {s : State} (h : s.storesOk) (n : SlotIx) (code : RelayCode) (i : XtIx) :
    (s.endForSlot n code i).storesOk := by
  unfold State.endForSlot
  split
  next x _ =>
    split
    · split
      · exact storesOk_endExchange_relay h i code false
      · exact storesOk_endExchange_relay h i code false
      · exact storesOk_endExchange_relay h i code false
      · exact storesOk_endExchange_relay h i .aborted false
      · exact h
      · exact h
    · exact h
  next => exact h

theorem storesOk_endSlotWork {s : State} (h : s.storesOk) (n : SlotIx) (code : RelayCode) :
    (s.endSlotWork n code).storesOk :=
  storesOk_of_stores_eq (List.foldlRecOn _ _ h fun _ hu i _ => storesOk_endForSlot hu n code i) (stores_onSlot _ _ _)

theorem storesOk_faultSlot {s : State} (h : s.storesOk) (n : SlotIx) (cause : LastFault) :
    (s.faultSlot n cause).storesOk := by
  unfold State.faultSlot
  split
  · exact storesOk_of_stores_eq (storesOk_endSlotWork h n .slotFault) (by simp)
  · exact h

theorem storesOk_resetSlot {s : State} (h : s.storesOk) (n : SlotIx) : (s.resetSlot n).storesOk := by
  unfold State.resetSlot
  split
  · exact storesOk_of_stores_eq (storesOk_endSlotWork h n .slotReset) (by simp)
  · exact storesOk_of_stores_eq h (by simp)

theorem storesOk_preempt {s : State} (h : s.storesOk) (n : SlotIx) (l : CtrlIx) : (s.preempt n l).storesOk := by
  refine List.foldlRecOn _ _ h fun u hu i _ => ?_
  unfold State.preemptOne
  split
  · split
    · exact storesOk_endExchange_relay hu i .preempted false
    · exact hu
  · exact hu

theorem storesOk_handOverTo {s : State} (h : s.storesOk) (n : SlotIx) (ls : List CtrlIx) :
    (s.handOverTo n ls).storesOk := by
  induction ls generalizing s with
  | nil => exact storesOk_of_stores_eq h (stores_onResv _ _ _)
  | cons l rest ih =>
    unfold State.handOverTo
    split
    · exact storesOk_preempt (storesOk_of_stores_eq h (by simp)) n l
    · exact ih (storesOk_of_stores_eq h (stores_notify _ _ _ _ _ _))

theorem storesOk_handOver {s : State} (h : s.storesOk) (n : SlotIx) : (s.handOver n).storesOk :=
  storesOk_handOverTo (storesOk_of_stores_eq h (stores_onResv _ _ _)) n _

theorem storesOk_dropLink {s : State} (h : s.storesOk) (l : CtrlIx) : (s.dropLink l).storesOk := by
  refine List.foldlRecOn _ _ h fun u hu n _ => ?_
  have hleft := storesOk_of_stores_eq hu
    (stores_onResv u n fun r => { r with waiting := r.waiting.filter (· != l) })
  unfold State.dropLinkAt
  dsimp only
  split
  · exact storesOk_handOver hleft n
  · exact hleft

/-! ## ABORT, deadline expiry, PARK (Section 6, R54 to R56) -/

theorem storesOk_toCancelling {s : State} {i : XtIx} {x : Exchange} {sp : RespSpace} (h : s.storesOk)
    (hx : s.exchange i = some x) (hcmd : x.cmdSpace = none) (hresp : x.respSpace = some sp)
    (hlive : x.isEnded = false) (d : Nat) (former : Position) :
    (s.toCancelling i x sp d former).storesOk := by
  have hset : (s.setPhase i (.cancelling sp d former)).storesOk :=
    storesOk_setPhase_of_same_space h hx hcmd.symm hresp.symm fun he => absurd he (by simp [hlive])
  exact storesOk_of_stores_eq hset (by simp [State.toCancelling])

theorem storesOk_abortEntry {s : State} (h : s.storesOk) (i : XtIx) : (s.abortEntry i).1.storesOk := by
  unfold State.abortEntry
  split
  next => exact h
  next x hx =>
    split
    next => exact storesOk_endExchange_relay h i .aborted false
    next => exact storesOk_endExchange_relay h i .aborted false
    next sp d hp =>
      exact storesOk_toCancelling h hx (by simp [Exchange.cmdSpace, hp]) (by simp [Exchange.respSpace, hp])
        (by simp [Exchange.isEnded, hp]) d .active
    next sp d hp =>
      exact storesOk_toCancelling h hx (by simp [Exchange.cmdSpace, hp]) (by simp [Exchange.respSpace, hp])
        (by simp [Exchange.isEnded, hp]) d .parked
    next => exact h
    next => exact h
    next => exact h

theorem storesOk_takeAbort {s : State} (h : s.storesOk) (l : CtrlIx) (tag : Byte) : (s.takeAbort l tag).storesOk := by
  cases ht : s.tagged l tag with
  | none => exact takeAbort_of_untagged ht ▸ storesOk_of_stores_eq h (stores_queueReply _ _ _)
  | some i =>
    exact takeAbort_of_tagged ht ▸ storesOk_of_stores_eq (storesOk_abortEntry h i) (stores_queueReply _ _ _)

theorem storesOk_takeDeadline {s : State} (h : s.storesOk) (i : XtIx) : (s.takeDeadline i).storesOk := by
  have hcancel : ∀ t x, (s.queueCancel t x).storesOk := fun t x => storesOk_of_stores_eq h (stores_queueCancel s t x)
  unfold State.takeDeadline
  split
  next => exact h
  next x _ =>
    split
    · exact storesOk_endExchange_relay (hcancel _ x) i .timeout _
    · exact storesOk_endExchange_relay (hcancel _ x) i .timeout _
    · exact storesOk_endExchange_relay h i .aborted true
    · exact h
    · exact h
    · exact h

theorem storesOk_takePark {s : State} (h : s.storesOk) (n : SlotIx) (t : RelayTag) : (s.takePark n t).storesOk := by
  by_cases hsent : ∃ x sp d, s.exchange t.index = some x ∧ x.phase = .active none sp d ∧ s.tagNames n t x = true
  case neg =>
    rwa [takePark_discarded fun x sp d hx hp => Bool.eq_false_iff.mpr fun hn => hsent ⟨x, sp, d, hx, hp, hn⟩]
  obtain ⟨x, sp, d, hx, hp, hn⟩ := hsent
  rw [takePark_of_sent hx hp hn]
  split
  · have hset : (s.setPhase t.index (.parked sp (s.parkedDeadlineFrom n))).storesOk :=
      storesOk_setPhase_of_same_space h hx (by simp [Exchange.cmdSpace, hp]) (by simp [Exchange.respSpace, hp])
        fun he => absurd he (by simp [Exchange.isEnded, hp])
    exact storesOk_of_stores_eq hset (stores_withdrawSend _ _ _)
  · split
    · exact h
    · exact storesOk_of_stores_eq h (stores_queueSend _ _ _)

/-! ## DONE (R57 to R61, R70) -/

theorem blockCount_mono {a b : Nat} (h : a ≤ b) : blockCount a ≤ blockCount b :=
  Nat.div_le_div_right (Nat.add_le_add_right h _)

theorem doneResponse_cases (x : Exchange) (sp : RespSpace) (d : DoneFrame) :
    doneResponse x sp d = .relay .aborted ∨ ∃ late, doneResponse x sp d = d.answer sp late := by
  unfold doneResponse
  dsimp only
  split
  · exact .inl rfl
  · exact .inr ⟨true, rfl⟩
  · exact .inr ⟨false, rfl⟩

/-- The payload of a DONE that is not longer than its exchange allows finds its blocks in the reservation (R58). -/
theorem fits_doneResponse {x : Exchange} {sp : RespSpace} {d : DoneFrame} (hok : x.spaceOk = true)
    (hlive : x.isEnded = false) (hsp : x.respSpace = some sp) (hlen : d.payload.length ≤ x.id.maxResp) :
    (doneResponse x sp d).fits x := by
  rcases doneResponse_cases x sp d with hr | ⟨late, hr⟩
  · exact hr ▸ fits_relay x .aborted
  · have hneed : sp.blocks = blockCount x.id.maxResp := (spaceOk_iff.mp hok).2 hlive sp hsp
    rw [hr]
    exact ⟨sp, hsp, rfl, hneed ▸ blockCount_mono hlen⟩

theorem storesOk_takeDone {s : State} (h : s.storesOk) (n : SlotIx) (d : DoneFrame) : (s.takeDone n d).storesOk := by
  cases hd : s.doneEntry n d.tag with
  | none =>
    by_cases ho : (s.slot n).orphan d.tag = none
    · rwa [takeDone_discarded hd ho]
    · exact takeDone_of_orphan hd ho ▸ storesOk_of_stores_eq h (stores_removeOrphan _ _ _)
  | some x =>
    obtain ⟨hx, -, hpos⟩ := doneEntry_eq_some_iff.mp hd
    obtain ⟨hlive, hspace⟩ := position_isSome_iff.mp hpos
    obtain ⟨sp, hsp⟩ := Option.isSome_iff_exists.mp hspace
    rw [takeDone_of_entry hd hsp]
    refine storesOk_endExchange h (fun y hy => ?_) false
    obtain rfl : x = y := Option.some.inj (hx.symm.trans hy)
    split
    · exact fits_relay x .slotOverrun
    · next hlen => exact fits_doneResponse (spaceOk_of_exchange h hx) hlive hsp (Nat.not_lt.mp hlen)

theorem storesOk_takeOrphanExpiry {s : State} (h : s.storesOk) (n : SlotIx) (t : RelayTag) :
    (s.takeOrphanExpiry n t).storesOk := by
  unfold State.takeOrphanExpiry
  split
  · exact storesOk_faultSlot (storesOk_of_stores_eq h (stores_removeOrphan _ _ _)) n _
  · exact h

/-! ## Teardown and RELAY_RESTART (R105, R159) -/

theorem storesOk_tearDown {s : State} (h : s.storesOk) (l : CtrlIx) : (s.tearDown l).storesOk := by
  refine List.foldlRecOn _ _ h fun u hu i _ => ?_
  unfold State.tearDownOne
  split
  next x hx =>
    split
    · have hcancel := stores_queueCancel u (u.relayTag i) x
      refine storesOk_freeEntry (storesOk_of_stores_eq hu hcancel) ?_ _
      rwa [State.exchange, entry_of_stores_eq hcancel]
    · exact hu
  next => exact hu

/-- A RELAY_RESTART releases the exchange with RESTARTED, or with the response it has (R87). -/
theorem storesOk_restartOne {s : State} (h : s.storesOk) (i : XtIx) : (s.restartOne i).storesOk := by
  have restarted : ∀ x, s.exchange i = some x →
      (((s.queueCancel (s.relayTag i) x).closeSlotSide i x 0 x.orphans).release x.id.link i
        (.relay .restarted)).storesOk := by
    intro x hx
    have hcancel := stores_queueCancel s (s.relayTag i) x
    refine storesOk_of_stores_eq (storesOk_setPhase_of_closed (r := .relay .restarted) h hx (fits_relay x _)
      ?_ (fun p => ?_) (.inr rfl)) (stores_onCtrl _ _ _)
    · rw [entries_closeSlotSide, (stores_eq_iff.mp hcancel).1]
    · rw [free_closeSlotSide, free_of_stores_eq hcancel]
      rfl
  unfold State.restartOne
  split
  next => exact h
  next x hx =>
    split
    · exact h
    · next r hp => exact storesOk_release_of_held h hx hp x.id.link
    · exact restarted x hx
    · exact restarted x hx
    · exact restarted x hx
    · exact restarted x hx

theorem storesOk_restartAll {s : State} (h : s.storesOk) : s.restartAll.storesOk := by
  have hreleased : (s.admissionOrder.foldl State.restartOne s).storesOk :=
    List.foldlRecOn _ _ h fun _ hu i _ => storesOk_restartOne hu i
  refine storesOk_of_stores_eq hreleased ?_
  unfold State.restartAll
  rw [foldl_keeps _ State.stores fun u n => stores_clearReservation u n .restart,
    foldl_keeps _ State.stores fun u l => stores_onCtrl u l _]

theorem storesOk_takeRestart {s : State} (h : s.storesOk) (l : CtrlIx) (tag : Byte) :
    (s.takeRestart l tag).storesOk := by
  unfold State.takeRestart
  split
  · exact storesOk_of_stores_eq (storesOk_restartAll h) (stores_answer _ _ _ _ _)
  · exact storesOk_of_stores_eq h (stores_answer _ _ _ _ _)

theorem storesOk_takeSlotReset {s : State} (h : s.storesOk) (l : CtrlIx) (tag : Byte) (n : SlotIx) :
    (s.takeSlotReset l tag n).storesOk := by
  unfold State.takeSlotReset
  split
  · split
    · exact storesOk_of_stores_eq h (stores_answer _ _ _ _ _)
    · exact storesOk_of_stores_eq (storesOk_resetSlot h n) (stores_answer _ _ _ _ _)
  · exact storesOk_of_stores_eq h (stores_answer _ _ _ _ _)

/-! ## Departures and the causes that have waited (R97, R168) -/

theorem storesOk_departCtrl {s : State} (h : s.storesOk) (l : CtrlIx) (cause : DepartCause) :
    (s.departCtrl l cause).storesOk := by
  have htorn := storesOk_tearDown (storesOk_of_stores_eq (t := (s.withWaiting (s.waiting.filter
    fun w => !w.goesWith l)).onCtrl l (·.onLink (·.leaveUp))) h (by simp)) l
  have hdropped := storesOk_dropLink (storesOk_of_stores_eq htorn (stores_onCtrl _ l CtrlBlock.emptyQueues)) l
  unfold State.departCtrl
  dsimp only
  split <;> exact storesOk_of_stores_eq hdropped (by simp)

theorem storesOk_departSlotLink {s : State} (h : s.storesOk) (n : SlotIx) (cause : DepartCause) :
    (s.departSlotLink n cause).storesOk := by
  have hfault := storesOk_faultSlot (storesOk_of_stores_eq h (stores_onSlot s n fun b =>
    { b.onLink (·.depart Config.slotBufferPlaces s.now cause) with sendQ := [] })) n .linkLost
  unfold State.departSlotLink
  dsimp only
  split
  · exact storesOk_of_stores_eq hfault (stores_slotLinkUp _ _)
  · exact hfault

theorem storesOk_takeWaiting {s : State} (h : s.storesOk) (w : WaitingCause) : (s.takeWaiting w).storesOk := by
  cases w with
  | abort l tag _ => exact storesOk_takeAbort h l tag
  | deadline i => exact storesOk_takeDeadline h i
  | done n d => exact storesOk_takeDone h n d
  | departure l cause => exact storesOk_departCtrl h l cause
  | restart l tag => exact storesOk_takeRestart h l tag
  | slotReset l tag n => exact storesOk_takeSlotReset h l tag n
  | faultFrame n code => exact storesOk_faultSlot h n (.faultFrame code)
  | orphanExpired n t => exact storesOk_takeOrphanExpiry h n t

theorem storesOk_resolveWaiting {s : State} (h : s.storesOk) : s.resolveWaiting.storesOk := by
  refine List.foldlRecOn _ _ h fun u hu w _ => ?_
  rw [resolveOne_eq]
  split
  · exact storesOk_takeWaiting (storesOk_of_stores_eq hu (stores_withWaiting _ _)) w
  · exact hu

theorem storesOk_arise {s : State} (h : s.storesOk) (w : WaitingCause) : (s.arise w).storesOk := by
  unfold State.arise
  split
  · exact storesOk_of_stores_eq h (stores_withWaiting _ _)
  · exact storesOk_takeWaiting h w

theorem storesOk_linkLeaves {s : State} (h : s.storesOk) (k : LinkId) (cause : DepartCause) :
    (s.linkLeaves k cause).storesOk := by
  cases k with
  | ctrl l =>
    unfold State.linkLeaves
    dsimp only
    split
    · exact h
    · exact storesOk_arise h _
  | slot n => exact storesOk_resolveWaiting (storesOk_departSlotLink h n cause)

end Sys2Proof.Machine
end

section
/-! PROOFS. Every step keeps the stores in order (Section 4): the events one by one. -/

namespace Sys2Proof.Machine

open Sys2Proof

/-- An outcome whose next state, if it is one, has its stores in order. -/
def KeepsStores (o : Host.Outcome State Fault Refusal) : Prop := ∀ t, o = .next t → t.storesOk

theorem keepsStores_stay {s : State} (h : s.storesOk) : KeepsStores s.stay := by
  rintro t ht
  cases ht
  exact h

theorem keepsStores_complete {s : State} (h : s.storesOk) : KeepsStores s.complete := by
  rintro t ht
  cases ht
  exact storesOk_of_stores_eq h (stores_settle s)

/-- An event that leaves the stores alone. -/
theorem keepsStores_of_stores_eq {s u : State} (h : s.storesOk) (hu : u.stores = s.stores) : KeepsStores u.complete :=
  keepsStores_complete (storesOk_of_stores_eq h hu)

theorem keepsStores_atExpiry {s : State} (h : s.storesOk) (e : Nat) {effect : State → State}
    (heffect : ∀ u : State, u.storesOk → (effect u).storesOk) : KeepsStores (s.atExpiry e effect) := by
  unfold State.atExpiry
  dsimp only
  split
  · exact keepsStores_complete (heffect _ (storesOk_of_stores_eq h (stores_atTime _ _)))
  · exact keepsStores_stay h

/-! ## Pins and lines -/

theorem storesOk_resetWith (strap : CtrlIx) : (State.resetWith strap).storesOk := by
  have hlive : ∀ i, ((State.resetWith strap).entry i).live = none := fun i => by
    simp [State.entry, State.resetWith]
  refine storesOk_iff.mpr ⟨fun p => ?_, fun l i j hi => ?_, fun i x hx => ?_⟩
  · simp only [held_of_free (hlive _), Finset.sum_const_zero, Nat.add_zero]
    rcases p with _ | _ | l
    · rfl
    · rfl
    · simp [State.free, State.reserve, State.resetWith, StorePool.size, Config.reserveBlocks]
  · have hnone := held_of_free (hlive i) (.response (some l))
    exact absurd hi (by simp only [Entry.held] at hnone; omega)
  · exact absurd hx (by simp [State.exchange, hlive])

theorem keepsStores_hardwareReset (strap : CtrlIx) (s : State) : KeepsStores (execHardwareReset strap s) := by
  rintro t ht
  cases ht
  exact storesOk_resetWith strap

theorem storesOk_lineLost {s : State} (h : s.storesOk) (k : LinkId) : (s.lineLost k).storesOk := by
  have hstopped := storesOk_of_stores_eq h (stores_onLink s k fun b => { b with lineTimer := none })
  unfold State.lineLost
  dsimp only
  split
  · exact storesOk_linkLeaves hstopped k .lineLost
  · exact storesOk_of_stores_eq hstopped (stores_onLink _ _ _)
  · exact hstopped

theorem keepsStores_helloArrives {s : State} (h : s.storesOk) (k : LinkId) (frame : List Byte) :
    KeepsStores (s.helloArrives k frame) := by
  unfold State.helloArrives
  split
  · exact keepsStores_of_stores_eq h (stores_linkEntersUp _ _ _)
  · split
    · exact keepsStores_stay h
    · exact keepsStores_complete (storesOk_linkLeaves h _ _)
  · exact keepsStores_stay h

theorem keepsStores_frameArrives {s : State} (h : s.storesOk) (k : LinkId) (a : Arrival) :
    KeepsStores (s.frameArrives k a) := by
  unfold State.frameArrives
  split
  · split
    · exact keepsStores_complete (storesOk_linkLeaves h _ _)
    · exact keepsStores_of_stores_eq h (stores_onLink _ _ _)
  · exact keepsStores_stay h

theorem keepsStores_received {s : State} (h : s.storesOk) (k : LinkId) (frame : List Byte) :
    KeepsStores (if frame.head? = some helloKind then s.helloArrives k frame
      else s.frameArrives k (checkFrame k frame)) := by
  split
  · exact keepsStores_helloArrives h k frame
  · exact keepsStores_frameArrives h k _

theorem keepsStores_lineLock {s : State} (h : s.storesOk) (k : LinkId) : KeepsStores (execLineLock k s) := by
  unfold execLineLock
  split
  · exact keepsStores_stay h
  · exact keepsStores_of_stores_eq h (stores_onLink _ _ _)

theorem keepsStores_lineUnlock {s : State} (h : s.storesOk) (k : LinkId) : KeepsStores (execLineUnlock k s) := by
  unfold execLineUnlock
  split
  · exact keepsStores_of_stores_eq h (stores_onLink _ _ _)
  · exact keepsStores_stay h

theorem keepsStores_lineLost {s : State} (h : s.storesOk) (k : LinkId) : KeepsStores (execLineLost k s) := by
  unfold execLineLost
  split
  · exact keepsStores_atExpiry h _ fun u hu => storesOk_lineLost hu k
  · exact keepsStores_stay h

theorem keepsStores_creditStall {s : State} (h : s.storesOk) (k : LinkId) : KeepsStores (execCreditStall k s) := by
  unfold execCreditStall
  split
  · exact keepsStores_atExpiry h _ fun u hu =>
      storesOk_linkLeaves (storesOk_of_stores_eq hu (stores_onLink _ _ _)) k .creditStall
  · exact keepsStores_stay h

/-! ## Admission and ABORT -/

theorem keepsStores_cmdOffered {s : State} (h : s.storesOk) (l : CtrlIx) : KeepsStores (execCmdOffered l s) := by
  unfold execCmdOffered
  split
  · exact keepsStores_of_stores_eq h (by simp)
  · exact keepsStores_stay h

theorem passed_of_firstFailing {α : Type} {checks : List (Bool × RelayCode)} {r : Except RelayCode α} {a : α}
    (h : firstFailing checks r = .ok a) : (∀ e ∈ checks, e.1 = false) ∧ r = .ok a := by
  unfold firstFailing at h
  split at h
  next => cases h
  next hnone => exact ⟨fun e he => Bool.eq_false_iff.mpr (List.find?_eq_none.mp hnone e he), h⟩

/-- What the admission checks leave for an admitted CMD: a FREE entry, and room for its payload (R30, R36, R38). -/
theorem room_of_admissionCheck {s : State} {l : CtrlIx} {c : CmdFrame} {n : SlotIx} {i : XtIx}
    (h : s.admissionCheck l c = .ok (n, i)) :
    s.exchange i = none ∧ c.maxResp ≤ 256 ∧ blockCount c.payload.length ≤ s.cmdFree := by
  by_cases hlen : 256 < c.payload.length ∨ 256 < c.maxResp
  · cases (admissionCheck_badLength hlen).symm.trans h
  obtain ⟨hpayload, hmax⟩ := not_or.mp hlen
  rw [Nat.not_lt] at hpayload hmax
  cases hslot : slotOfByte c.slotAddr with
  | none => cases (admissionCheck_noSlot hpayload hmax hslot).symm.trans h
  | some m =>
    rw [admissionCheck_eq_firstFailing hpayload hmax hslot] at h
    obtain ⟨hpassed, hplace⟩ := passed_of_firstFailing h
    have hroom := hpassed (decide (s.cmdFree < blockCount c.payload.length), .storeFull)
      (by simp [State.tableChecks])
    refine ⟨?_, hmax, Nat.not_lt.mp (of_decide_eq_false hroom)⟩
    unfold State.placeAt at hplace
    split at hplace
    next j hj =>
      cases hplace
      exact (allocatable_eq_some_iff.mp hj).1
    next => cases hplace

theorem storesOk_takeCmd {s : State} (h : s.storesOk) (l : CtrlIx) (c : CmdFrame) : (s.takeCmd l c).storesOk := by
  have hended : (s.endOffer l).storesOk := storesOk_of_stores_eq h (stores_endOffer s l)
  cases hcheck : s.admissionCheck l c with
  | error code => exact takeCmd_of_refused hcheck ▸ storesOk_of_stores_eq hended (stores_queueReply _ _ _)
  | ok place =>
    obtain ⟨hfree, hmax, hroom⟩ := room_of_admissionCheck hcheck
    exact takeCmd_of_admitted hcheck ▸ storesOk_admitCmd hended hfree hmax hroom

theorem keepsStores_cmd {s : State} (h : s.storesOk) : KeepsStores (execCmd s) := by
  unfold execCmd
  split
  · split
    · exact keepsStores_complete (storesOk_takeCmd h _ _)
    · exact keepsStores_stay h
  · exact keepsStores_stay h

theorem keepsStores_abort {s : State} (h : s.storesOk) (l : CtrlIx) : KeepsStores (execAbort l s) := by
  have htook := storesOk_of_stores_eq h (stores_tookFrame s l)
  unfold execAbort
  split
  · dsimp only
    split
    · exact keepsStores_complete (storesOk_arise htook _)
    · exact keepsStores_complete (storesOk_takeAbort htook l _)
  · exact keepsStores_stay h

/-! ## Reservations -/

theorem keepsStores_resvRequest {s : State} (h : s.storesOk) (l : CtrlIx) (kind : ResvKind)
    {effect : Byte → State → SlotIx → State}
    (heffect : ∀ tag (u : State) n, u.storesOk → (effect tag u n).storesOk) :
    KeepsStores (s.resvRequest l kind effect) := by
  have htook := storesOk_of_stores_eq h (stores_tookFrame s l)
  unfold State.resvRequest
  split
  · split
    · unfold State.takeResv
      split
      · exact keepsStores_complete (heffect _ _ _ htook)
      · exact keepsStores_of_stores_eq htook (stores_answerResv _ _ _ _ _)
    · exact keepsStores_stay h
  · exact keepsStores_stay h

theorem storesOk_takeTake {s : State} (h : s.storesOk) (l : CtrlIx) (tag : Byte) (n : SlotIx) :
    (s.takeTake l tag n).storesOk := by
  unfold State.takeTake
  dsimp only
  split
  · exact storesOk_of_stores_eq h (stores_answerResv _ _ _ _ _)
  · split
    · exact storesOk_preempt (storesOk_of_stores_eq h (by simp)) n l
    · split
      · exact storesOk_of_stores_eq h (by simp)
      · split
        · exact storesOk_of_stores_eq h (stores_answerResv _ _ _ _ _)
        · exact storesOk_of_stores_eq h (by simp)

theorem storesOk_takeRenew {s : State} (h : s.storesOk) (l : CtrlIx) (tag : Byte) (n : SlotIx) :
    (s.takeRenew l tag n).storesOk := by
  unfold State.takeRenew
  split <;> exact storesOk_of_stores_eq h (by simp)

theorem storesOk_takeDrop {s : State} (h : s.storesOk) (l : CtrlIx) (tag : Byte) (n : SlotIx) :
    (s.takeDrop l tag n).storesOk := by
  unfold State.takeDrop
  dsimp only
  split
  · exact storesOk_handOver (storesOk_of_stores_eq h (stores_answerResv _ _ _ _ _)) n
  · split <;> exact storesOk_of_stores_eq h (by simp)

/-! ## Management requests -/

theorem keepsStores_mgmtRequest {s : State} (h : s.storesOk) (l : CtrlIx) (wanted : Byte → Bool)
    {effect : Byte → List Byte → State → State}
    (heffect : ∀ tag args (u : State), u.storesOk → (effect tag args u).storesOk) :
    KeepsStores (s.mgmtRequest l wanted effect) := by
  unfold State.mgmtRequest
  split
  · split
    · exact keepsStores_complete (heffect _ _ _ (storesOk_of_stores_eq h (stores_tookFrame s l)))
    · exact keepsStores_stay h
  · exact keepsStores_stay h

theorem storesOk_privileged {s : State} (h : s.storesOk) (l : CtrlIx) (tag : Byte) {effect : State → State}
    (heffect : (effect s).storesOk) : (s.privileged l tag effect).storesOk := by
  unfold State.privileged
  split
  · exact heffect
  · exact storesOk_of_stores_eq h (stores_answer _ _ _ _ _)

theorem storesOk_noArgs {s : State} (h : s.storesOk) (l : CtrlIx) (tag : Byte) (args : List Byte)
    {effect : State → State} (heffect : (effect s).storesOk) : (s.noArgs l tag args effect).storesOk := by
  unfold State.noArgs
  split
  · exact heffect
  · exact storesOk_of_stores_eq h (stores_answer _ _ _ _ _)

theorem storesOk_oneArg {s : State} (h : s.storesOk) (l : CtrlIx) (tag : Byte) (args : List Byte)
    {effect : Byte → State → State} (heffect : ∀ a, (effect a s).storesOk) :
    (s.oneArg l tag args effect).storesOk := by
  unfold State.oneArg
  split
  · exact heffect _
  · exact storesOk_of_stores_eq h (stores_answer _ _ _ _ _)

theorem keepsStores_readIdent {s : State} (h : s.storesOk) (l : CtrlIx) : KeepsStores (execReadIdent l s) :=
  keepsStores_mgmtRequest h l _ fun _ _ _ hu =>
    storesOk_noArgs hu _ _ _ (storesOk_of_stores_eq hu (stores_answer _ _ _ _ _))

theorem keepsStores_readEntry {s : State} (h : s.storesOk) (l : CtrlIx) : KeepsStores (execReadEntry l s) := by
  refine keepsStores_mgmtRequest h l _ fun _ _ _ hu => ?_
  split
  · split <;> exact storesOk_of_stores_eq hu (stores_answer _ _ _ _ _)
  · exact storesOk_of_stores_eq hu (stores_answer _ _ _ _ _)

theorem keepsStores_readSlot {s : State} (h : s.storesOk) (l : CtrlIx) : KeepsStores (execReadSlot l s) := by
  refine keepsStores_mgmtRequest h l _ fun _ _ _ hu => storesOk_oneArg hu _ _ _ fun _ => ?_
  split <;> exact storesOk_of_stores_eq hu (stores_answer _ _ _ _ _)

theorem keepsStores_readExchange {s : State} (h : s.storesOk) (l : CtrlIx) : KeepsStores (execReadExchange l s) := by
  refine keepsStores_mgmtRequest h l _ fun _ _ _ hu => storesOk_oneArg hu _ _ _ fun _ => ?_
  split <;> exact storesOk_of_stores_eq hu (stores_answer _ _ _ _ _)

theorem keepsStores_readStore {s : State} (h : s.storesOk) (l : CtrlIx) : KeepsStores (execReadStore l s) :=
  keepsStores_mgmtRequest h l _ fun _ _ _ hu =>
    storesOk_noArgs hu _ _ _ (storesOk_of_stores_eq hu (stores_answer _ _ _ _ _))

theorem keepsStores_writeEntry {s : State} (h : s.storesOk) (l : CtrlIx) : KeepsStores (execWriteEntry l s) := by
  refine keepsStores_mgmtRequest h l _ fun _ _ _ hu => storesOk_privileged hu _ _ ?_
  split <;> exact storesOk_of_stores_eq hu rfl

theorem keepsStores_revert {s : State} (h : s.storesOk) (l : CtrlIx) : KeepsStores (execRevert l s) :=
  keepsStores_mgmtRequest h l _ fun _ _ _ hu =>
    storesOk_privileged hu _ _ (storesOk_noArgs hu _ _ _ (storesOk_of_stores_eq hu rfl))

theorem storesOk_disableSlot {s : State} (h : s.storesOk) (old : Bank) (n : SlotIx) :
    (s.disableSlot old n).storesOk := by
  unfold State.disableSlot
  split
  · refine List.foldlRecOn _ _ h fun u hu i _ => ?_
    unfold State.disableOne
    split
    · split
      · exact storesOk_endExchange_relay hu i .slotDisabled false
      · exact hu
    · exact hu
  · exact h

theorem storesOk_activateNow {s : State} (h : s.storesOk) (m : CtrlIx) : (s.activateNow m).storesOk := by
  have hcopied : ({ s with active := s.staged, epoch := s.epoch + 1 } : State).storesOk := h
  have hdisabled := List.foldlRecOn (motive := State.storesOk) (List.finRange 8) (fun u n => u.disableSlot s.active n)
    hcopied fun u hu n _ => storesOk_disableSlot hu s.active n
  exact storesOk_of_stores_eq hdisabled (foldl_keeps _ State.stores (fun u l => stores_announce u m l) _ _)

theorem keepsStores_activate {s : State} (h : s.storesOk) (l : CtrlIx) : KeepsStores (execActivate l s) := by
  refine keepsStores_mgmtRequest h l _ fun _ _ _ hu => storesOk_privileged hu _ _ (storesOk_noArgs hu _ _ _ ?_)
  split
  · exact storesOk_of_stores_eq (storesOk_activateNow hu _) (stores_answer _ _ _ _ _)
  · exact storesOk_of_stores_eq hu (stores_answer _ _ _ _ _)

theorem keepsStores_noticeAck {s : State} (h : s.storesOk) (l : CtrlIx) : KeepsStores (execNoticeAck l s) := by
  refine keepsStores_mgmtRequest h l _ fun _ _ u hu =>
    storesOk_privileged hu _ _ (storesOk_oneArg hu _ _ _ fun id => ?_)
  split
  · refine storesOk_of_stores_eq hu ?_
    rw [stores_answer, foldl_keeps _ State.stores fun u n => stores_acknowledge u id n]
  · exact storesOk_of_stores_eq hu (stores_answer _ _ _ _ _)

theorem keepsStores_slotClear {s : State} (h : s.storesOk) (l : CtrlIx) : KeepsStores (execSlotClear l s) := by
  refine keepsStores_mgmtRequest h l _ fun _ _ u hu =>
    storesOk_privileged hu _ _ (storesOk_oneArg hu _ _ _ fun a => ?_)
  split
  · exact storesOk_of_stores_eq hu (stores_answer _ _ _ _ _)
  · split <;> exact storesOk_of_stores_eq hu (by simp)

theorem keepsStores_slotReset {s : State} (h : s.storesOk) (l : CtrlIx) : KeepsStores (execSlotReset l s) := by
  refine keepsStores_mgmtRequest h l _ fun _ _ u hu =>
    storesOk_privileged hu _ _ (storesOk_oneArg hu _ _ _ fun a => ?_)
  split
  · exact storesOk_of_stores_eq hu (stores_answer _ _ _ _ _)
  · exact storesOk_arise hu _

theorem keepsStores_relayRestart {s : State} (h : s.storesOk) (l : CtrlIx) : KeepsStores (execRelayRestart l s) :=
  keepsStores_mgmtRequest h l _ fun _ _ _ hu =>
    storesOk_privileged hu _ _ (storesOk_noArgs hu _ _ _ (storesOk_arise hu _))

theorem keepsStores_mgmtUnknownRequest {s : State} (h : s.storesOk) (l : CtrlIx) :
    KeepsStores (execMgmtUnknownRequest l s) :=
  keepsStores_mgmtRequest h l _ fun _ _ _ hu => storesOk_of_stores_eq hu (stores_answer _ _ _ _ _)

/-! ## Issues and grants (R46, R73 to R75) -/

/-- The general pool has room for what it is asked for. -/
theorem storesOk_issue_general {s : State} {i : XtIx} (h : s.storesOk)
    (hroom : ∀ x, s.exchange i = some x → x.need ≤ s.generalFree) : (s.issueExchange i .general).storesOk :=
  storesOk_issueExchange h fun x hx => ⟨hroom x hx, fun hr => by cases hr⟩

/-- A free reserve of the exchange's own link has room for any need. -/
theorem storesOk_issue_reserve {s : State} {i : XtIx} (h : s.storesOk)
    (hroom : ∀ x, s.exchange i = some x → s.reserve x.id.link = 4) : (s.issueExchange i .reserve).storesOk :=
  storesOk_issueExchange h fun x hx =>
    ⟨(need_le_four (spaceOk_of_exchange h hx)).trans (hroom x hx).ge, fun _ => hroom x hx⟩

theorem keepsStores_issue {s : State} (h : s.storesOk) (n : SlotIx) : KeepsStores (execIssue n s) := by
  unfold execIssue
  split
  · split
    next i _ x hx =>
      split
      next hneed =>
        refine keepsStores_complete (storesOk_issue_general h fun y hy => ?_)
        obtain rfl : x = y := Option.some.inj (hx.symm.trans hy)
        exact hneed ▸ Nat.zero_le _
      next => exact keepsStores_stay h
    next => exact keepsStores_stay h
  · exact keepsStores_stay h

theorem keepsStores_generalGrant {s : State} (h : s.storesOk) : KeepsStores (execGeneralGrant s) := by
  unfold execGeneralGrant
  split
  next i hserves =>
    refine keepsStores_complete (storesOk_issue_general h fun y hy => ?_)
    obtain ⟨-, x, hx, hneed⟩ := generalServes_eq_some_iff.mp hserves
    obtain rfl : x = y := Option.some.inj (hx.symm.trans hy)
    exact hneed
  next => exact keepsStores_stay h

/-- The order head of a link is an exchange of that link (R77). -/
theorem link_of_orderHead {s : State} (hc : s.collectionsOk) {l : CtrlIx} {i : XtIx} {x : Exchange}
    (hi : s.orderHead l = some i) (hx : s.exchange i = some x) : x.id.link = l := by
  obtain ⟨-, -, horders⟩ := hc
  obtain ⟨-, hmem, -⟩ := horders l
  have hlisted := (hmem i).mp (List.mem_of_mem_head? hi)
  simp only [State.exchangeIs, hx, Bool.and_eq_true, beq_iff_eq] at hlisted
  exact hlisted.1.1

/-- This grant takes from the reserve of the link whose Order List names the exchange: it is the exchange's own. -/
theorem keepsStores_reserveGrant {s : State} (hc : s.collectionsOk) (h : s.storesOk) (l : CtrlIx) :
    KeepsStores (execReserveGrant l s) := by
  unfold execReserveGrant
  split
  next i hi =>
    split
    next hgrant =>
      refine keepsStores_complete (storesOk_issue_reserve h fun x hx => ?_)
      obtain ⟨-, hfree, -⟩ := hgrant
      rw [link_of_orderHead hc hi hx]
      exact eq_of_beq hfree
    next => exact keepsStores_stay h
  next => exact keepsStores_stay h

theorem overtakes_of_overtaker {s : State} {n : SlotIx} {i : XtIx} (h : s.overtaker n = some i) :
    s.overtakes i = true := by
  cases hw : s.waitingCandidate n with
  | none => simp [State.overtaker, hw] at h
  | some j => exact List.find?_some (overtaker_of_waiting_head hw ▸ h)

theorem keepsStores_overtakingIssue {s : State} (h : s.storesOk) (n : SlotIx) :
    KeepsStores (execOvertakingIssue n s) := by
  unfold execOvertakingIssue
  split
  next i hi =>
    split
    next x hx =>
      obtain ⟨y, hy, -, hfree⟩ := overtakes_iff.mp (overtakes_of_overtaker hi)
      have same : ∀ z, s.exchange i = some z → z = x := fun z hz => Option.some.inj (hz.symm.trans hx)
      refine keepsStores_complete ?_
      split
      next hneed => exact storesOk_issue_general h fun z hz => same z hz ▸ hneed ▸ Nat.zero_le _
      next => exact storesOk_issue_reserve h fun z hz => by rwa [same z hz, ← same y hy]
    next => exact keepsStores_stay h
  next => exact keepsStores_stay h

/-! ## Frames that leave -/

theorem keepsStores_slotLinkSend {s : State} (h : s.storesOk) (n : SlotIx) : KeepsStores (execSlotLinkSend n s) := by
  unfold execSlotLinkSend
  split
  · split
    · exact keepsStores_of_stores_eq h (stores_onSlot _ _ _)
    · split
      · exact keepsStores_of_stores_eq h (stores_onSlot _ _ _)
      · exact keepsStores_stay h
  · exact keepsStores_stay h

theorem keepsStores_controllerLinkSend {s : State} (h : s.storesOk) (l : CtrlIx) :
    KeepsStores (execControllerLinkSend l s) := by
  unfold execControllerLinkSend
  split
  · split
    · exact keepsStores_of_stores_eq h (stores_onCtrl _ _ _)
    · split
      · exact keepsStores_of_stores_eq h (stores_onCtrl _ _ _)
      · exact keepsStores_stay h
  · exact keepsStores_stay h

theorem keepsStores_issueSent {s : State} (h : s.storesOk) (n : SlotIx) : KeepsStores (execIssueSent n s) := by
  unfold execIssueSent
  split
  · exact keepsStores_complete
      (storesOk_resolveWaiting (storesOk_markSent (storesOk_of_stores_eq h (stores_onSlot _ _ _)) _))
  · exact keepsStores_stay h

theorem keepsStores_cancelSent {s : State} (h : s.storesOk) (n : SlotIx) : KeepsStores (execCancelSent n s) := by
  unfold execCancelSent
  split
  · exact keepsStores_of_stores_eq h (stores_onSlot _ _ _)
  · exact keepsStores_stay h

theorem keepsStores_keepSent {s : State} (h : s.storesOk) (n : SlotIx) : KeepsStores (execKeepSent n s) := by
  unfold execKeepSent
  split
  · exact keepsStores_of_stores_eq h (stores_onSlot _ _ _)
  · exact keepsStores_stay h

theorem keepsStores_creditSent {s : State} (h : s.storesOk) (k : LinkId) : KeepsStores (execCreditSent k s) := by
  unfold execCreditSent
  split
  · exact keepsStores_of_stores_eq h (stores_onLink _ _ _)
  · exact keepsStores_stay h

theorem keepsStores_replySent {s : State} (h : s.storesOk) (l : CtrlIx) : KeepsStores (execReplySent l s) := by
  unfold execReplySent
  split
  · exact keepsStores_of_stores_eq h (stores_onCtrl _ _ _)
  · exact keepsStores_stay h

theorem keepsStores_noticeSent {s : State} (h : s.storesOk) (l : CtrlIx) : KeepsStores (execNoticeSent l s) := by
  unfold execNoticeSent
  split
  · exact keepsStores_of_stores_eq h (stores_onCtrl _ _ _)
  · exact keepsStores_stay h

theorem storesOk_respSent {s : State} (h : s.storesOk) (l : CtrlIx) : (s.respSent l).storesOk := by
  have hended := storesOk_of_stores_eq h (stores_onCtrl s l (·.onLink (·.endSend)))
  unfold State.respSent
  dsimp only
  split
  · split
    next x hx => exact storesOk_freeEntry hended hx none
    next => exact hended
  · exact hended

theorem keepsStores_respSent {s : State} (h : s.storesOk) (l : CtrlIx) : KeepsStores (execRespSent l s) := by
  unfold execRespSent
  split
  · exact keepsStores_complete (storesOk_respSent h l)
  · exact keepsStores_stay h

/-! ## Frames of a card -/

theorem keepsStores_park {s : State} (h : s.storesOk) (n : SlotIx) : KeepsStores (execPark n s) := by
  unfold execPark
  split
  · exact keepsStores_complete (storesOk_takePark (storesOk_of_stores_eq h (stores_tookSlotFrame s n)) n _)
  · exact keepsStores_stay h

theorem keepsStores_done {s : State} (h : s.storesOk) (n : SlotIx) : KeepsStores (execDone n s) := by
  have htook := storesOk_of_stores_eq h (stores_tookSlotFrame s n)
  unfold execDone
  split
  · dsimp only
    split
    · exact keepsStores_complete (storesOk_arise htook _)
    · exact keepsStores_complete (storesOk_takeDone htook n _)
  · exact keepsStores_stay h

theorem keepsStores_fault {s : State} (h : s.storesOk) (n : SlotIx) : KeepsStores (execFault n s) := by
  unfold execFault
  split
  · exact keepsStores_complete (storesOk_arise (storesOk_of_stores_eq h (stores_tookSlotFrame s n)) _)
  · exact keepsStores_stay h

/-! ## Expiries -/

theorem keepsStores_deadlineExpiry {s : State} (h : s.storesOk) (i : XtIx) : KeepsStores (execDeadlineExpiry i s) := by
  unfold execDeadlineExpiry
  split
  · exact keepsStores_atExpiry h _ fun u hu => storesOk_arise hu _
  · exact keepsStores_stay h

theorem keepsStores_orphanExpiry {s : State} (h : s.storesOk) (n : SlotIx) (t : RelayTag) :
    KeepsStores (execOrphanExpiry n t s) := by
  unfold execOrphanExpiry
  split
  · split
    · exact keepsStores_stay h
    · exact keepsStores_atExpiry h _ fun u hu => storesOk_arise hu _
  · exact keepsStores_stay h

theorem storesOk_revokeLease {s : State} (h : s.storesOk) (n : SlotIx) : (s.revokeLease n).storesOk := by
  unfold State.revokeLease
  split
  · exact storesOk_handOver (storesOk_of_stores_eq h (stores_notify _ _ _ _ _ _)) n
  · exact h

theorem keepsStores_leaseExpiry {s : State} (h : s.storesOk) (n : SlotIx) : KeepsStores (execLeaseExpiry n s) := by
  unfold execLeaseExpiry
  split
  · exact keepsStores_atExpiry h _ fun u hu => storesOk_revokeLease hu n
  · exact keepsStores_stay h

theorem keepsStores_acknowledgeWindowExpiry {s : State} (h : s.storesOk) (n : SlotIx) :
    KeepsStores (execAcknowledgeWindowExpiry n s) := by
  unfold execAcknowledgeWindowExpiry
  split
  · exact keepsStores_atExpiry h _ fun u hu => storesOk_of_stores_eq hu (stores_escalate u n)
  · exact keepsStores_stay h

theorem keepsStores_pulseEnd {s : State} (h : s.storesOk) (n : SlotIx) : KeepsStores (execPulseEnd n s) := by
  unfold execPulseEnd
  split
  · exact keepsStores_atExpiry h _ fun u hu => storesOk_of_stores_eq hu (stores_setSlotState u n .offline)
  · exact keepsStores_stay h

/-! ## Every step -/

theorem exec_keepsStores {s : State} (hc : s.collectionsOk) (h : s.storesOk) (c : Instr) : KeepsStores (exec c s) := by
  cases c with
  | hardwareReset strap => exact keepsStores_hardwareReset strap s
  | lineLock k => exact keepsStores_lineLock h k
  | lineUnlock k => exact keepsStores_lineUnlock h k
  | lineLost k => exact keepsStores_lineLost h k
  | creditStall k => exact keepsStores_creditStall h k
  | hello k frame => exact keepsStores_received h k frame
  | frameReceived k frame => exact keepsStores_received h k frame
  | credit k count => exact keepsStores_frameArrives h k _
  | cmdOffered l => exact keepsStores_cmdOffered h l
  | cmd => exact keepsStores_cmd h
  | abort l => exact keepsStores_abort h l
  | take l => exact keepsStores_resvRequest h l .take fun tag u n hu => storesOk_takeTake hu l tag n
  | renew l => exact keepsStores_resvRequest h l .renew fun tag u n hu => storesOk_takeRenew hu l tag n
  | drop l => exact keepsStores_resvRequest h l .drop fun tag u n hu => storesOk_takeDrop hu l tag n
  | readIdent l => exact keepsStores_readIdent h l
  | readEntry l => exact keepsStores_readEntry h l
  | readSlot l => exact keepsStores_readSlot h l
  | readExchange l => exact keepsStores_readExchange h l
  | readStore l => exact keepsStores_readStore h l
  | writeEntry l => exact keepsStores_writeEntry h l
  | revert l => exact keepsStores_revert h l
  | activate l => exact keepsStores_activate h l
  | noticeAck l => exact keepsStores_noticeAck h l
  | slotClear l => exact keepsStores_slotClear h l
  | slotReset l => exact keepsStores_slotReset h l
  | relayRestart l => exact keepsStores_relayRestart h l
  | mgmtUnknownRequest l => exact keepsStores_mgmtUnknownRequest h l
  | issue n => exact keepsStores_issue h n
  | generalGrant => exact keepsStores_generalGrant h
  | reserveGrant l => exact keepsStores_reserveGrant hc h l
  | overtakingIssue n => exact keepsStores_overtakingIssue h n
  | slotLinkSend n => exact keepsStores_slotLinkSend h n
  | issueSent n => exact keepsStores_issueSent h n
  | cancelSent n => exact keepsStores_cancelSent h n
  | keepSent n => exact keepsStores_keepSent h n
  | creditSent k => exact keepsStores_creditSent h k
  | park n => exact keepsStores_park h n
  | done n => exact keepsStores_done h n
  | fault n => exact keepsStores_fault h n
  | deadlineExpiry i => exact keepsStores_deadlineExpiry h i
  | orphanExpiry n t => exact keepsStores_orphanExpiry h n t
  | leaseExpiry n => exact keepsStores_leaseExpiry h n
  | acknowledgeWindowExpiry n => exact keepsStores_acknowledgeWindowExpiry h n
  | pulseEnd n => exact keepsStores_pulseEnd h n
  | controllerLinkSend l => exact keepsStores_controllerLinkSend h l
  | replySent l => exact keepsStores_replySent h l
  | noticeSent l => exact keepsStores_noticeSent h l
  | respSent l => exact keepsStores_respSent h l

/-- Settles O60: each event moves blocks only between a pool and the entry it changes. -/
theorem stepKeepsStoreSums : Obligations.StepKeepsStoreSums := by
  intro s t hc h hstep
  unfold step at hstep
  split at hstep
  next c rest _ => exact exec_keepsStores (s := { s with pending := rest }) hc h c t hstep
  next =>
    split at hstep
    next c _ => exact exec_keepsStores hc h c t hstep
    next =>
      cases hstep
      exact storesOk_of_stores_eq h (stores_atTime _ _)

end Sys2Proof.Machine
end

section
/-! PROOFS. The Order Unit (Section 5, R79 and R80): what a release changes, the cascade of the HELD elements behind
the order head, and where a response handed to it is placed. -/

namespace Sys2Proof.Machine

open Sys2Proof

/-! ## A change of phase and a release -/

@[simp] theorem ctrl_setPhase (s : State) (i : XtIx) (p : Phase) (l : CtrlIx) :
    (s.setPhase i p).ctrl l = s.ctrl l := by
  simp only [State.setPhase]
  split <;> rfl

theorem exchange_setPhase_self {s : State} {i : XtIx} {x : Exchange} (hx : s.exchange i = some x) (p : Phase) :
    (s.setPhase i p).exchange i = some (x.withPhase p) := by
  rw [setPhase_of_exchange hx, exchange_setEntry_self]

theorem entry_setPhase_ne (s : State) {i j : XtIx} (p : Phase) (h : j ≠ i) : (s.setPhase i p).entry j = s.entry j := by
  rcases exchange_eq_none_or_some s i with hx | ⟨x, hx⟩
  · simp [State.setPhase, hx]
  · rw [setPhase_of_exchange hx, entry_setEntry_ne _ _ h.symm]

/-- A released entry is appended to the tail of the Release Queue (R83). -/
theorem ctrl_release (s : State) (l : CtrlIx) (i : XtIx) (r : Response) :
    (s.release l i r).ctrl l = { s.ctrl l with releaseQ := (s.ctrl l).releaseQ ++ [i] } := by
  simp [State.release]

theorem exchange_release_self {s : State} {i : XtIx} {x : Exchange} (hx : s.exchange i = some x) (l : CtrlIx)
    (r : Response) : (s.release l i r).exchange i = some (x.withPhase (.released r)) :=
  exchange_setPhase_self hx _

theorem entry_release_ne (s : State) (l : CtrlIx) {i j : XtIx} (r : Response) (h : j ≠ i) :
    (s.release l i r).entry j = s.entry j :=
  entry_setPhase_ne s _ h

/-! ## HELD entries -/

theorem isHeldAt_iff {s : State} {i : XtIx} :
    s.isHeldAt i = true ↔ ∃ x r, s.exchange i = some x ∧ x.phase = .held r := by
  rcases exchange_eq_none_or_some s i with hx | ⟨⟨id, phase⟩, hx⟩
  · simp [State.isHeldAt, hx]
  · cases phase <;> simp [State.isHeldAt, Exchange.isHeld, hx]

theorem isHeldAt_of_entry_eq {s t : State} {i : XtIx} (h : t.entry i = s.entry i) : t.isHeldAt i = s.isHeldAt i := by
  simp only [State.isHeldAt, State.exchange, h]

theorem releaseHeld_of_held {s : State} {i : XtIx} {x : Exchange} {r : Response} (hx : s.exchange i = some x)
    (hp : x.phase = .held r) (l : CtrlIx) : s.releaseHeld l i = s.release l i r := by
  simp only [State.releaseHeld, hx, hp]

theorem entry_releaseHeld_ne (s : State) (l : CtrlIx) {i j : XtIx} (h : j ≠ i) :
    (s.releaseHeld l i).entry j = s.entry j := by
  unfold State.releaseHeld
  split
  · split
    · exact entry_release_ne s l _ h
    · rfl
  · rfl

/-! ## The release of several HELD entries -/

/-- The HELD entries of a list are released one after another. -/
def State.releaseAll (s : State) (l : CtrlIx) (go : List XtIx) : State := go.foldl (fun s i => s.releaseHeld l i) s

theorem releaseAll_cons (s : State) (l : CtrlIx) (i : XtIx) (go : List XtIx) :
    s.releaseAll l (i :: go) = (s.releaseHeld l i).releaseAll l go := rfl

theorem entry_releaseAll_of_not_mem (s : State) (l : CtrlIx) {go : List XtIx} {j : XtIx} (h : j ∉ go) :
    (s.releaseAll l go).entry j = s.entry j := by
  induction go generalizing s with
  | nil => rfl
  | cons i go ih =>
    rw [List.mem_cons, not_or] at h
    obtain ⟨hji, hgo⟩ := h
    rw [releaseAll_cons, ih _ hgo, entry_releaseHeld_ne s l hji]

/-- Released entries join the Release Queue in the order of the list. -/
theorem ctrl_releaseAll {s : State} (l : CtrlIx) {go : List XtIx} (hnodup : go.Nodup)
    (hheld : ∀ j ∈ go, s.isHeldAt j = true) :
    (s.releaseAll l go).ctrl l = { s.ctrl l with releaseQ := (s.ctrl l).releaseQ ++ go } := by
  induction go generalizing s with
  | nil => simp [State.releaseAll]
  | cons i go ih =>
    obtain ⟨hi, hgo⟩ := List.nodup_cons.mp hnodup
    obtain ⟨x, r, hx, hp⟩ := isHeldAt_iff.mp (hheld i List.mem_cons_self)
    have hheld' : ∀ j ∈ go, (s.release l i r).isHeldAt j = true := fun j hj => by
      rw [isHeldAt_of_entry_eq (entry_release_ne s l r (ne_of_mem_of_not_mem hj hi))]
      exact hheld j (List.mem_cons_of_mem i hj)
    rw [releaseAll_cons, releaseHeld_of_held hx hp, ih hgo hheld', ctrl_release]
    simp

/-- A HELD entry of the list is RELEASED with the response it has (R80). -/
theorem exchange_releaseAll_of_held {s : State} (l : CtrlIx) {go : List XtIx} (hnodup : go.Nodup) {j : XtIx}
    (hj : j ∈ go) {y : Exchange} {r : Response} (hy : s.exchange j = some y) (hp : y.phase = .held r) :
    (s.releaseAll l go).exchange j = some (y.withPhase (.released r)) := by
  induction go generalizing s with
  | nil => cases hj
  | cons i go ih =>
    obtain ⟨hi, hgo⟩ := List.nodup_cons.mp hnodup
    rw [releaseAll_cons]
    by_cases hji : j = i
    · subst hji
      rw [releaseHeld_of_held hy hp, State.exchange, entry_releaseAll_of_not_mem _ l hi]
      exact exchange_release_self hy l r
    · refine ih hgo ((List.mem_cons.mp hj).resolve_left hji) ?_
      rw [State.exchange, entry_releaseHeld_ne s l hji]
      exact hy

/-! ## The release cascade (R80) -/

/-- The HELD elements at the front of a link's Order List. -/
def State.heldFront (s : State) (l : CtrlIx) : List XtIx := (s.ctrl l).orderList.takeWhile s.isHeldAt

/-- The cascade releases the HELD elements at the front of the Order List, once they have left it. -/
theorem cascade_eq_releaseAll (s : State) (l : CtrlIx) :
    s.cascade l = (s.onCtrl l fun b => { b with
      orderList := (s.ctrl l).orderList.drop (s.heldFront l).length }).releaseAll l (s.heldFront l) := rfl

theorem nodup_heldFront {s : State} {l : CtrlIx} (h : (s.ctrl l).orderList.Nodup) : (s.heldFront l).Nodup :=
  h.sublist (List.takeWhile_sublist _)

theorem isHeldAt_of_mem_heldFront {s : State} {l : CtrlIx} {j : XtIx} (h : j ∈ s.heldFront l) : s.isHeldAt j = true :=
  List.mem_takeWhile_imp h

theorem entry_cascade_of_not_mem (s : State) (l : CtrlIx) {j : XtIx} (h : j ∉ s.heldFront l) :
    (s.cascade l).entry j = s.entry j := by
  rw [cascade_eq_releaseAll, entry_releaseAll_of_not_mem _ l h, entry_onCtrl]

theorem ctrl_cascade {s : State} {l : CtrlIx} (hnodup : (s.ctrl l).orderList.Nodup) :
    (s.cascade l).ctrl l = { s.ctrl l with
      releaseQ := (s.ctrl l).releaseQ ++ s.heldFront l
      orderList := (s.ctrl l).orderList.drop (s.heldFront l).length } := by
  rw [cascade_eq_releaseAll, ctrl_releaseAll l (nodup_heldFront hnodup), ctrl_onCtrl_self]
  exact fun j hj => isHeldAt_of_mem_heldFront (s := s) hj

theorem exchange_cascade_of_held {s : State} {l : CtrlIx} (hnodup : (s.ctrl l).orderList.Nodup) {j : XtIx}
    (hj : j ∈ s.heldFront l) {y : Exchange} {r : Response} (hy : s.exchange j = some y) (hp : y.phase = .held r) :
    (s.cascade l).exchange j = some (y.withPhase (.released r)) := by
  rw [cascade_eq_releaseAll]
  exact exchange_releaseAll_of_held l (nodup_heldFront hnodup) hj hy hp

/-! ## The placement of a response (R79, Table 5.1) -/

theorem handToOrderUnit_of_unordered (s : State) (i : XtIx) {x : Exchange} (r : Response)
    (ho : x.id.ordered = false) : s.handToOrderUnit i x r = s.release x.id.link i r := by
  simp [State.handToOrderUnit, ho]

theorem handToOrderUnit_behind_head {s : State} {i : XtIx} {x : Exchange} (r : Response) (ho : x.id.ordered = true)
    (hhead : s.orderHead x.id.link ≠ some i) : s.handToOrderUnit i x r = s.setPhase i (.held r) := by
  simp [State.handToOrderUnit, ho, hhead]

/-- The order head is released and leaves the front of the Order List; the cascade has not yet run. -/
def State.releaseHead (s : State) (l : CtrlIx) (i : XtIx) (r : Response) : State :=
  (s.release l i r).onCtrl l fun b => { b with orderList := b.orderList.tail }

theorem handToOrderUnit_of_head {s : State} {i : XtIx} {x : Exchange} (r : Response) (ho : x.id.ordered = true)
    (hhead : s.orderHead x.id.link = some i) :
    s.handToOrderUnit i x r = (s.releaseHead x.id.link i r).cascade x.id.link := by
  simp [State.handToOrderUnit, ho, hhead, State.releaseHead]

theorem ctrl_releaseHead {s : State} {l : CtrlIx} {i : XtIx} (r : Response) {rest : List XtIx}
    (hlist : (s.ctrl l).orderList = i :: rest) :
    (s.releaseHead l i r).ctrl l = { s.ctrl l with
      releaseQ := (s.ctrl l).releaseQ ++ [i]
      orderList := rest } := by
  simp [State.releaseHead, ctrl_release, hlist]

theorem exchange_releaseHead_self {s : State} {i : XtIx} {x : Exchange} (hx : s.exchange i = some x) (l : CtrlIx)
    (r : Response) : (s.releaseHead l i r).exchange i = some (x.withPhase (.released r)) :=
  exchange_release_self hx l r

theorem entry_releaseHead_ne (s : State) (l : CtrlIx) {i j : XtIx} (r : Response) (h : j ≠ i) :
    (s.releaseHead l i r).entry j = s.entry j :=
  entry_release_ne s l r h

theorem takeWhile_congr {α : Type} {p q : α → Bool} {l : List α} (h : ∀ a ∈ l, p a = q a) :
    l.takeWhile p = l.takeWhile q := by
  induction l with
  | nil => rfl
  | cons a l ih =>
    rw [List.takeWhile_cons, List.takeWhile_cons, h a List.mem_cons_self,
      ih fun b hb => h b (List.mem_cons_of_mem a hb)]

/-- The release of the order head changes no element behind it, so the cascade finds HELD what was HELD before. -/
theorem heldFront_releaseHead {s : State} {l : CtrlIx} {i : XtIx} (r : Response) {rest : List XtIx}
    (hlist : (s.ctrl l).orderList = i :: rest) (hi : i ∉ rest) :
    (s.releaseHead l i r).heldFront l = rest.takeWhile s.isHeldAt := by
  rw [State.heldFront, ctrl_releaseHead r hlist]
  exact takeWhile_congr fun j hj => isHeldAt_of_entry_eq (entry_releaseHead_ne s l r (ne_of_mem_of_not_mem hj hi))

/-- Settles O22, by the three rows of Table 5.1. -/
theorem orderUnitPlacesAResponse : Obligations.OrderUnitPlacesAResponse := by
  intro s i x r hx _
  refine ⟨fun ho => ?unordered, fun ho hhead => ?behind, fun rest ho hlist hnodup => ?head⟩
  case unordered =>
    rw [handToOrderUnit_of_unordered s i r ho, ctrl_release]
    exact ⟨exchange_release_self hx _ r, rfl, rfl⟩
  case behind =>
    rw [handToOrderUnit_behind_head r ho hhead]
    exact ⟨exchange_setPhase_self hx _, ctrl_setPhase ..⟩
  case head =>
    obtain ⟨hi, hrest⟩ := List.nodup_cons.mp hnodup
    have hctrl := ctrl_releaseHead r hlist
    have hnodup' : ((s.releaseHead x.id.link i r).ctrl x.id.link).orderList.Nodup := by rwa [hctrl]
    have hfront := heldFront_releaseHead r hlist hi
    have hi' : i ∉ rest.takeWhile s.isHeldAt := fun h => hi ((List.takeWhile_sublist _).mem h)
    rw [handToOrderUnit_of_head r ho (by simp [State.orderHead, hlist]), ctrl_cascade hnodup', hctrl, hfront]
    refine ⟨?_, by simp, rfl, fun j hj y r' hy hp => ?_, fun j hji hj => ?_⟩
    · rw [State.exchange, entry_cascade_of_not_mem _ _ (hfront ▸ hi')]
      exact exchange_releaseHead_self hx _ r
    · refine exchange_cascade_of_held hnodup' (hfront ▸ hj) ?_ hp
      rw [State.exchange, entry_releaseHead_ne s _ r (ne_of_mem_of_not_mem hj hi')]
      exact hy
    · rw [entry_cascade_of_not_mem _ _ (hfront ▸ hj), entry_releaseHead_ne s _ r hji]

end Sys2Proof.Machine
end

section
/-! PROOFS. The freeing of an entry (Section 1, R19; Section 5, R86): what it leaves of the links, the slots and the
pools, and the event in which the RESP at the head of a Release Queue has left. -/

namespace Sys2Proof.Machine

open Sys2Proof

/-! ## The slot side of an exchange -/

@[simp] theorem ctrl_returnCmd (s : State) (c : Option CmdSpace) (l : CtrlIx) : (s.returnCmd c).ctrl l = s.ctrl l := by
  cases c <;> rfl

@[simp] theorem ctrl_returnResp (s : State) (m : CtrlIx) (p : Pool) (k : Nat) (l : CtrlIx) :
    (s.returnResp m p k).ctrl l = s.ctrl l := by
  cases p <;> rfl

@[simp] theorem slot_returnCmd (s : State) (c : Option CmdSpace) (n : SlotIx) : (s.returnCmd c).slot n = s.slot n := by
  cases c <;> rfl

@[simp] theorem slot_returnResp (s : State) (m : CtrlIx) (p : Pool) (k : Nat) (n : SlotIx) :
    (s.returnResp m p k).slot n = s.slot n := by
  cases p <;> rfl

@[simp] theorem ctrl_closeSlotSide (s : State) (i : XtIx) (x : Exchange) (kept : Nat) (o : Option Position)
    (l : CtrlIx) : (s.closeSlotSide i x kept o).ctrl l = s.ctrl l := by
  simp only [State.closeSlotSide, State.leaveSlotQueue, State.withdrawSend, State.addOrphan]
  cases x.respSpace <;> cases o <;> simp

/-- A withdrawal changes of a slot at most its Slot Send Queue (R51). -/
theorem exists_sendQ_withdraw (b : SlotBlock) (f : SlotFrame) : ∃ q, b.withdraw f = { b with sendQ := q } := by
  unfold SlotBlock.withdraw
  split
  · exact ⟨_, rfl⟩
  · split <;> exact ⟨_, rfl⟩

/-- Where no orphan takes over, closing the slot side changes at most the Slot Queue and the Slot Send Queue of the
exchange's slot. -/
theorem exists_sendQ_closeSlotSide (s : State) (i : XtIx) (x : Exchange) (kept : Nat) (n : SlotIx) :
    ∃ q, (s.closeSlotSide i x kept none).slot n = { s.slot n with
      queue := if x.id.slot = n then (s.slot n).queue.filter (· != i) else (s.slot n).queue
      sendQ := q } := by
  have hslot : (s.closeSlotSide i x kept none).slot n = if x.id.slot = n then
      (({ s.slot n with queue := (s.slot n).queue.filter (· != i) }.withdraw
        (.issue (s.relayTag i))).withdraw (.keep (s.relayTag i)))
      else s.slot n := by
    simp only [State.closeSlotSide, State.leaveSlotQueue, State.withdrawSend, onSlot_onSlot, slot_onSlot]
    by_cases hn : x.id.slot = n
    · subst hn
      cases x.respSpace <;> simp
    · cases x.respSpace <;> simp [hn]
  rw [hslot]
  split
  · obtain ⟨q, hq⟩ := exists_sendQ_withdraw { s.slot n with queue := (s.slot n).queue.filter (· != i) }
      (.issue (s.relayTag i))
    obtain ⟨q', hq'⟩ := exists_sendQ_withdraw { s.slot n with
      queue := (s.slot n).queue.filter (· != i), sendQ := q } (.keep (s.relayTag i))
    exact ⟨q', by rw [hq, hq']⟩
  · exact ⟨_, rfl⟩

/-! ## An entry becomes FREE (R18, R19) -/

theorem entry_freeEntry_self (s : State) (i : XtIx) (x : Exchange) (o : Option Position) :
    (s.freeEntry i x o).entry i = { gen := (s.entry i).gen + 1, live := none } := by
  have hgen : ((s.closeSlotSide i x 0 o).entry i).gen = (s.entry i).gen := by
    rw [State.entry, entries_closeSlotSide, State.entry]
  rw [← hgen]
  exact entry_setEntry_self _ _ _

theorem entry_freeEntry_ne (s : State) {i j : XtIx} (x : Exchange) (o : Option Position) (h : j ≠ i) :
    (s.freeEntry i x o).entry j = s.entry j := by
  have hclose : (s.closeSlotSide i x 0 o).entry j = s.entry j := by
    rw [State.entry, entries_closeSlotSide, State.entry]
  rw [← hclose]
  exact entry_setEntry_ne _ _ h.symm

/-- The freed entry leaves the collections of its own link; the other links stay. -/
theorem ctrl_freeEntry (s : State) (i : XtIx) (x : Exchange) (o : Option Position) (l : CtrlIx) :
    (s.freeEntry i x o).ctrl l = if x.id.link = l then { s.ctrl l with
      orderList := (s.ctrl l).orderList.filter (· != i)
      releaseQ := (s.ctrl l).releaseQ.filter (· != i) } else s.ctrl l := by
  have hctrl : (s.freeEntry i x o).ctrl l = ((s.closeSlotSide i x 0 o).onCtrl x.id.link fun b => { b with
      orderList := b.orderList.filter (· != i)
      releaseQ := b.releaseQ.filter (· != i) }).ctrl l := rfl
  rw [hctrl, ctrl_onCtrl]
  split
  next h => rw [ctrl_closeSlotSide, h]
  next => rw [ctrl_closeSlotSide]

theorem slot_freeEntry (s : State) (i : XtIx) (x : Exchange) (o : Option Position) (n : SlotIx) :
    (s.freeEntry i x o).slot n = (s.closeSlotSide i x 0 o).slot n := rfl

/-- Every pool gets back all that the exchange held of it. -/
theorem free_freeEntry (s : State) (i : XtIx) (x : Exchange) (o : Option Position) (p : StorePool) :
    (s.freeEntry i x o).free p = s.free p + x.returns 0 p := by
  rw [← free_closeSlotSide s i x 0 o p]
  rcases p with _ | _ | l <;> rfl

/-- The freed entry leaves the admission order; the rest of the ground stays. -/
theorem ground_freeEntry (s : State) (i : XtIx) (x : Exchange) (o : Option Position) :
    (s.freeEntry i x o).ground
      = { s with admissionOrder := s.admissionOrder.filter (· != i) : State }.ground := by
  have hground := ground_closeSlotSide s i x 0 o
  simp only [State.ground, Prod.mk.injEq] at hground ⊢
  obtain ⟨hnow, hpending, horder, htables, hnotice, hwaiting⟩ := hground
  exact ⟨hnow, hpending, congrArg (List.filter (· != i)) horder, htables, hnotice, hwaiting⟩

/-! ## A RELEASED entry -/

/-- Of a RELEASED exchange only the blocks of a slot-origin payload are still held (R71). -/
theorem returns_of_released_slot {x : Exchange} {a : SlotAnswer} (hp : x.phase = .released (.slot a)) (p : StorePool) :
    x.returns 0 p = a.space.blocksOf x.id.link 0 p := by
  simp [Exchange.returns, Exchange.cmdSpace, Exchange.respSpace, hp]

theorem returns_of_released_relay {x : Exchange} {code : RelayCode} (hp : x.phase = .released (.relay code))
    (p : StorePool) : x.returns 0 p = 0 := by
  simp [Exchange.returns, Exchange.cmdSpace, Exchange.respSpace, hp]

theorem not_mem_queue_of_released {s : State} (hc : s.collectionsOk) {i : XtIx} {x : Exchange} {r : Response}
    (hx : s.exchange i = some x) (hp : x.phase = .released r) (n : SlotIx) : i ∉ (s.slot n).queue := by
  obtain ⟨-, hqueues, -⟩ := hc
  obtain ⟨-, hmem⟩ := hqueues n
  simp [hmem, State.exchangeIs, hx, Exchange.isQueued, hp]

theorem not_mem_orderList_of_released {s : State} (hc : s.collectionsOk) {i : XtIx} {x : Exchange} {r : Response}
    (hx : s.exchange i = some x) (hp : x.phase = .released r) (l : CtrlIx) : i ∉ (s.ctrl l).orderList := by
  obtain ⟨-, -, horders⟩ := hc
  obtain ⟨-, hmem, -⟩ := horders l
  simp [hmem, State.exchangeIs, hx, Exchange.isReleased, Exchange.isEnded, Exchange.isHeld, hp]

theorem nodup_releaseQ {s : State} (hc : s.collectionsOk) (l : CtrlIx) : (s.ctrl l).releaseQ.Nodup := by
  obtain ⟨-, -, horders⟩ := hc
  obtain ⟨-, -, -, hnodup, -⟩ := horders l
  exact hnodup

theorem filter_ne_of_not_mem {l : List XtIx} {i : XtIx} (h : i ∉ l) : l.filter (· != i) = l := by
  rw [List.filter_eq_self]
  exact fun j hj => bne_iff_ne.mpr (ne_of_mem_of_not_mem hj h)

/-- An entry that waits in no Slot Queue leaves of a slot all but its Slot Send Queue as it was. -/
theorem exists_sendQ_freeEntry {s : State} {i : XtIx} {n : SlotIx} (h : i ∉ (s.slot n).queue) (x : Exchange) :
    ∃ q, (s.freeEntry i x none).slot n = { s.slot n with sendQ := q } := by
  obtain ⟨q, hq⟩ := exists_sendQ_closeSlotSide s i x 0 n
  rw [filter_ne_of_not_mem h, ite_self] at hq
  exact ⟨q, hq⟩

/-! ## The end of an event -/

theorem sending_settle (b : LinkBlock) (now : Nat) (cond : Bool) : (b.settle now cond).sending = b.sending := by
  unfold LinkBlock.settle
  split <;> rfl

/-! ## The RESP has left (R86) -/

theorem exec_respSent (l : CtrlIx) (s : State) : exec (.respSent l) s = execRespSent l s := rfl

theorem execRespSent_of_sending {s : State} {l : CtrlIx} (hs : (s.ctrl l).link.sending = some .resp) :
    execRespSent l s = .next (s.respSent l).settle := by
  simp only [execRespSent, hs, State.complete]

section Head

variable {s : State} {l : CtrlIx} {i : XtIx} {rest : List XtIx} {x : Exchange}
  (hq : (s.ctrl l).releaseQ = i :: rest) (hx : s.exchange i = some x)

include hq hx

/-- The link sends nothing, and the entry at the head of its Release Queue becomes FREE. -/
theorem respSent_of_head : s.respSent l = (s.onCtrl l (·.onLink (·.endSend))).freeEntry i x none := by
  have hq' : ((s.onCtrl l (·.onLink (·.endSend))).ctrl l).releaseQ = i :: rest := by
    rw [ctrl_onCtrl_self]
    exact hq
  simp only [State.respSent, hq', exchange_onCtrl, hx]

theorem entry_respSent_head : (s.respSent l).entry i = { gen := (s.entry i).gen + 1, live := none } := by
  rw [respSent_of_head hq hx, entry_freeEntry_self, entry_onCtrl]

theorem entry_respSent_ne {j : XtIx} (h : j ≠ i) : (s.respSent l).entry j = s.entry j := by
  rw [respSent_of_head hq hx, entry_freeEntry_ne _ _ _ h, entry_onCtrl]

theorem free_respSent (p : StorePool) : (s.respSent l).free p = s.free p + x.returns 0 p := by
  rw [respSent_of_head hq hx, free_freeEntry, free_of_stores_eq (stores_onCtrl ..)]

theorem ground_respSent :
    (s.respSent l).ground = { s with admissionOrder := s.admissionOrder.filter (· != i) : State }.ground := by
  rw [respSent_of_head hq hx, ground_freeEntry]
  rfl

/-- The head leaves the Release Queue, which names it once, and the Order List did not name it (R77, R83). -/
theorem ctrl_respSent_self {r : Response} (hp : x.phase = .released r) (hl : x.id.link = l) (hc : s.collectionsOk) :
    (s.respSent l).ctrl l = { (s.ctrl l).onLink (·.endSend) with releaseQ := rest } := by
  have hrest : i ∉ rest := (List.nodup_cons.mp (hq ▸ nodup_releaseQ hc l)).1
  have hqueue : (s.ctrl l).releaseQ.filter (· != i) = rest := by
    rw [hq, List.filter_cons_of_neg (by simp), filter_ne_of_not_mem hrest]
  have horder : (s.ctrl l).orderList.filter (· != i) = (s.ctrl l).orderList :=
    filter_ne_of_not_mem (not_mem_orderList_of_released hc hx hp l)
  rw [respSent_of_head hq hx, ctrl_freeEntry, if_pos hl, ctrl_onCtrl_self]
  simp only [CtrlBlock.onLink, hqueue, horder]

theorem ctrl_respSent_ne (hl : x.id.link = l) {m : CtrlIx} (hm : m ≠ l) : (s.respSent l).ctrl m = s.ctrl m := by
  rw [respSent_of_head hq hx, ctrl_freeEntry, if_neg (hl ▸ hm.symm), ctrl_onCtrl_ne _ _ hm.symm]

theorem exists_sendQ_respSent {r : Response} (hp : x.phase = .released r) (hc : s.collectionsOk) (n : SlotIx) :
    ∃ q, (s.respSent l).slot n = { s.slot n with sendQ := q } := by
  rw [respSent_of_head hq hx]
  exact exists_sendQ_freeEntry (s := s.onCtrl l _) (not_mem_queue_of_released hc hx hp n) x

/-- The blocks of a slot-origin payload return to the pool that they came from (R71). -/
theorem free_respSent_of_slot {a : SlotAnswer} (hp : x.phase = .released (.slot a)) (p : StorePool) :
    (s.respSent l).free p = s.free p + a.space.blocksOf x.id.link 0 p := by
  rw [free_respSent hq hx, returns_of_released_slot hp]

theorem free_respSent_of_relay {code : RelayCode} (hp : x.phase = .released (.relay code)) (p : StorePool) :
    (s.respSent l).free p = s.free p := by
  rw [free_respSent hq hx, returns_of_released_relay hp, Nat.add_zero]

end Head

/-- Settles O45, part by part of the state that the freeing of the entry leaves. -/
theorem respSentFreesTheEntry : Obligations.RespSentFreesTheEntry := by
  intro l s i rest x r hs hq hx hp hl hc
  have hctrl := ctrl_respSent_self hq hx hp hl hc
  have hground := ground_respSent hq hx
  simp only [State.ground, Prod.mk.injEq] at hground
  obtain ⟨-, -, horder, htables, hnotice, -⟩ := hground
  refine ⟨(s.respSent l).settle, (exec_respSent l s).trans (execRespSent_of_sending hs), ?_⟩
  simp only [entry_settle, admissionOrder_settle, generalFree_settle, reserve_settle, cmdFree_settle, noticeId_settle,
    tables_settle, ctrl_settle, slot_settle, CtrlBlock.onLink, SlotBlock.onLink, sending_settle]
  refine ⟨entry_respSent_head hq hx, fun j hj => entry_respSent_ne hq hx hj, horder,
    by rw [hctrl], by rw [hctrl]; rfl, by rw [hctrl]; rfl, ?pools, fun l' hl' => ?others, fun n => ?slots, ?command,
    hnotice, htables⟩
  case pools =>
    cases r with
    | slot a =>
      refine ⟨free_respSent_of_slot hq hx hp (.response none), fun l' => ?_⟩
      refine (free_respSent_of_slot hq hx hp (.response (some l'))).trans ?_
      simp [RespSpace.blocksOf, State.free, hl, and_comm, eq_comm]
    | relay code =>
      exact ⟨free_respSent_of_relay hq hx hp (.response none),
        fun l' => free_respSent_of_relay hq hx hp (.response (some l'))⟩
  case others =>
    rw [ctrl_respSent_ne hq hx hl hl']
    exact ⟨rfl, rfl⟩
  case slots =>
    obtain ⟨q, hn⟩ := exists_sendQ_respSent hq hx hp hc n
    rw [hn]
    exact ⟨rfl, rfl, rfl, rfl⟩
  case command =>
    cases r with
    | slot a => exact free_respSent_of_slot hq hx hp .command
    | relay code => exact free_respSent_of_relay hq hx hp .command

end Sys2Proof.Machine
end

section
/-! PROOFS. ABORT and the expiries of deadlines and orphans (Section 6, R90 to R104): when each is taken and when it
waits, and what it does to its entry or its orphan. -/

namespace Sys2Proof.Machine

open Sys2Proof

/-! ## ABORT (Table 6.1) -/

theorem exec_abort (l : CtrlIx) (s : State) : exec (.abort l) s = execAbort l s := rfl

theorem execAbort_of_untagged {s : State} {l : CtrlIx} {tag : Byte} (h : s.takes l (.abort tag))
    (ht : s.tagged l tag = none) : execAbort l s = .next ((s.tookFrame l).takeAbort l tag).settle := by
  simp [execAbort, nextFrame_of_takes h, ht, State.complete]

/-- An ABORT of an entry is a cause, which may have to wait (R97). -/
theorem execAbort_of_tagged {s : State} {l : CtrlIx} {tag : Byte} {i : XtIx} (h : s.takes l (.abort tag))
    (ht : s.tagged l tag = some i) : execAbort l s = .next ((s.tookFrame l).arise (.abort l tag i)).settle := by
  simp [execAbort, nextFrame_of_takes h, ht, State.complete]

theorem abortEntry_of_queued {s : State} {i : XtIx} {x : Exchange} {c : CmdSpace} (hx : s.exchange i = some x)
    (hp : x.phase = .queued c) : s.abortEntry i = (s.endExchange i (.relay .aborted) false, .taken) := by
  simp only [State.abortEntry, hx, hp]

theorem abortEntry_of_unsent {s : State} {i : XtIx} {x : Exchange} {c : CmdSpace} {sp : RespSpace} {d : Nat}
    (hx : s.exchange i = some x) (hp : x.phase = .active (some c) sp d) :
    s.abortEntry i = (s.endExchange i (.relay .aborted) false, .taken) := by
  simp only [State.abortEntry, hx, hp]

/-- An ABORT of a parked exchange makes it CANCELLING as that of a sent one does, but from PARKED (R93). -/
theorem abortEntry_of_parked {s : State} {i : XtIx} {x : Exchange} {sp : RespSpace} {d : Nat}
    (hx : s.exchange i = some x) (hp : x.phase = .parked sp d) :
    s.abortEntry i = ((s.setEntry i { s.entry i with live := some { x with
      phase := .cancelling sp d .parked } }).onSlot x.id.slot fun b =>
        { b with sendQ := b.sendQ ++ [SlotFrame.cancel (s.relayTag i)] }.withdraw (.keep (s.relayTag i)), .taken) := by
  simp only [State.abortEntry, hx, hp, State.toCancelling, setPhase_of_exchange hx, State.queueSend,
    State.withdrawSend, onSlot_onSlot]

theorem abortEntry_of_cancelling {s : State} {i : XtIx} {x : Exchange} {sp : RespSpace} {d : Nat} {p : Position}
    (hx : s.exchange i = some x) (hp : x.phase = .cancelling sp d p) : s.abortEntry i = (s, .repeated) := by
  simp only [State.abortEntry, hx, hp]

/-- Settles O20: the ABORT waits, or acts on its entry by the row of Table 6.1 for the entry's state. -/
theorem abortActsByState : Obligations.AbortActsByState := by
  intro l tag s ht u answered cancelling
  rw [exec_abort]
  refine ⟨fun hnone => ?_, fun i x hi hx => ?_⟩
  · rw [execAbort_of_untagged ht hnone, takeAbort_of_untagged (s := s.tookFrame l) hnone]
    rfl
  have hx' : u.exchange i = some x := hx
  have hwait : u.mustWait (.abort l tag i) = s.inTransit i := inTransit_tookFrame s l i
  have harise : execAbort l s = .next (u.arise (.abort l tag i)).settle := execAbort_of_tagged ht hi
  refine ⟨fun htransit => ?_, fun htransit => ?_⟩
  · rw [harise, arise_of_mustWait (hwait.trans htransit)]
  have taken : ∀ {t r}, u.abortEntry i = (t, r) → execAbort l s = .next (answered t r).settle := by
    intro t r hr
    rw [harise, arise_of_not_mustWait (hwait.trans htransit), State.takeWaiting, takeAbort_of_tagged (s := u) hi, hr]
    rfl
  exact ⟨fun c hp => taken (abortEntry_of_queued hx' hp), fun c sp d hp => taken (abortEntry_of_unsent hx' hp),
    fun sp d hp => taken (abortEntry_of_sent hx' hp), fun sp d hp => taken (abortEntry_of_parked hx' hp),
    fun sp d p hp => taken (abortEntry_of_cancelling hx' hp), fun he => taken (abortEntry_of_ended hx' he)⟩

/-! ## Deadline expiry (R99 to R101) -/

theorem exec_deadlineExpiry (i : XtIx) (s : State) : exec (.deadlineExpiry i) s = execDeadlineExpiry i s := rfl

/-- A deadline that runs expires, once its instant can be taken, as a cause of its entry. -/
theorem execDeadlineExpiry_of_running {s : State} {i : XtIx} {x : Exchange} {e : Nat} (hx : s.exchange i = some x)
    (hd : x.deadline = some e) (hw : .deadline i ∉ s.waiting) (he : s.canExpire e) :
    execDeadlineExpiry i s = .next ((s.atTime (max s.now e)).arise (.deadline i)).settle := by
  have htimer : s.deadlineTimer i = some e := by simp [State.deadlineTimer, hx, hw, hd]
  simp only [execDeadlineExpiry, htimer]
  exact atExpiry_of_canExpire he _

theorem takeDeadline_of_parked {s : State} {i : XtIx} {x : Exchange} {sp : RespSpace} {d : Nat}
    (hx : s.exchange i = some x) (hp : x.phase = .parked sp d) :
    s.takeDeadline i
      = (s.queueSend x.id.slot (.cancel (s.relayTag i))).endExchange i (.relay .timeout) true := by
  simp [State.takeDeadline, hx, hp, State.queueCancel, Exchange.orphans]

theorem takeDeadline_of_unsent {s : State} {i : XtIx} {x : Exchange} {c : CmdSpace} {sp : RespSpace} {d : Nat}
    (hx : s.exchange i = some x) (hp : x.phase = .active (some c) sp d) :
    s.takeDeadline i = s.endExchange i (.relay .timeout) false := by
  simp [State.takeDeadline, hx, hp, State.queueCancel, Exchange.orphans]

theorem takeDeadline_of_cancelling {s : State} {i : XtIx} {x : Exchange} {sp : RespSpace} {d : Nat} {p : Position}
    (hx : s.exchange i = some x) (hp : x.phase = .cancelling sp d p) :
    s.takeDeadline i = s.endExchange i (.relay .aborted) true := by
  simp only [State.takeDeadline, hx, hp]

/-- Settles O49: the expiry waits, or ends the entry by its state. -/
theorem deadlineExpiryEndsTheEntry : Obligations.DeadlineExpiryEndsTheEntry := by
  intro i s x e hx hd hw he u cancelled
  have hx' : u.exchange i = some x := hx
  rw [exec_deadlineExpiry, execDeadlineExpiry_of_running hx hd hw he]
  refine ⟨fun htransit => ?_, fun htransit => ?_⟩
  · rw [arise_of_mustWait (s := u) (w := .deadline i) htransit]
  rw [arise_of_not_mustWait (s := u) (w := .deadline i) htransit, State.takeWaiting]
  refine ⟨fun sp d hp => ?_, fun c sp d hp => ?_, fun sp d p hp => ?_⟩
  · rcases hp with hp | hp
    · rw [takeDeadline_of_sent hx' hp]
      rfl
    · rw [takeDeadline_of_parked hx' hp]
      rfl
  · rw [takeDeadline_of_unsent hx' hp]
  · rw [takeDeadline_of_cancelling hx' hp]

/-! ## Orphan expiry (R104) -/

theorem exec_orphanExpiry (n : SlotIx) (t : RelayTag) (s : State) :
    exec (.orphanExpiry n t) s = execOrphanExpiry n t s := rfl

/-- An orphan whose expiry does not wait yet expires, once its instant can be taken, as a cause of its slot. -/
theorem execOrphanExpiry_of_running {s : State} {n : SlotIx} {t : RelayTag} {o : Orphan}
    (ho : (s.slot n).orphan t = some o) (hw : .orphanExpired n t ∉ s.waiting) (he : s.canExpire o.expiry) :
    execOrphanExpiry n t s = .next ((s.atTime (max s.now o.expiry)).arise (.orphanExpired n t)).settle := by
  simp only [execOrphanExpiry, ho, if_neg hw]
  exact atExpiry_of_canExpire he _

theorem execOrphanExpiry_of_no_orphan {s : State} {n : SlotIx} {t : RelayTag} (ho : (s.slot n).orphan t = none) :
    execOrphanExpiry n t s = .next s := by
  simp only [execOrphanExpiry, ho]
  rfl

/-- Settles O50: the expiry waits, or removes the orphan and faults the slot. -/
theorem orphanExpiryFaultsTheSlot : Obligations.OrphanExpiryFaultsTheSlot := by
  intro n t s
  refine ⟨?_, execOrphanExpiry_of_no_orphan⟩
  intro o ho hw he u
  have horphan : (u.slot n).orphan t ≠ none := Option.ne_none_iff_exists'.mpr ⟨o, ho⟩
  rw [exec_orphanExpiry, execOrphanExpiry_of_running ho hw he]
  refine ⟨fun hreached => ?_, fun hreached => ?_⟩
  · rw [arise_of_mustWait (s := u) (w := .orphanExpired n t) hreached]
  · rw [arise_of_not_mustWait (s := u) (w := .orphanExpired n t) hreached, State.takeWaiting,
      takeOrphanExpiry_of_orphan horphan, removeOrphan_eq]

end Sys2Proof.Machine
end

section
/-! PROOFS. What endings, releases and freeings of entries leave: the identities of the other exchanges, the sums of
the pools, the queues of the links, and of each slot all but what leaves its Slot Queue and its Slot Send Queue. -/

namespace Sys2Proof.Machine

open Sys2Proof

/-! ## Identities (R2, R8) -/

/-- The generation of an entry and the identity of its live exchange. -/
def State.identity (s : State) (i : XtIx) : BitVec 2 × Option Identity :=
  ((s.entry i).gen, (s.exchange i).map (·.id))

theorem identity_of_entry_eq {s t : State} {i : XtIx} (h : t.entry i = s.entry i) : t.identity i = s.identity i := by
  simp only [State.identity, State.exchange, h]

theorem identity_of_entries_eq {s t : State} (h : t.entries = s.entries) : t.identity = s.identity :=
  funext fun i => identity_of_entry_eq (by rw [State.entry, State.entry, h])

/-- An entry that is FREE is the same with the same identity. -/
theorem entry_of_identity_eq {s t : State} {i : XtIx} (h : t.identity i = s.identity i) (hx : s.exchange i = none) :
    t.entry i = s.entry i := by
  obtain ⟨hgen, hid⟩ := Prod.mk.inj h
  rw [hx, Option.map_none, Option.map_eq_none_iff] at hid
  have hlive : (t.entry i).live = (s.entry i).live := Eq.trans hid hx.symm
  exact congrArg₂ Entry.mk hgen hlive

theorem exists_exchange_of_identity_eq {s t : State} {i : XtIx} {x : Exchange} (h : t.identity i = s.identity i)
    (hx : s.exchange i = some x) :
    ∃ y, t.exchange i = some y ∧ y.id = x.id ∧ (t.entry i).gen = (s.entry i).gen := by
  obtain ⟨hgen, hid⟩ := Prod.mk.inj h
  rw [hx, Option.map_some, Option.map_eq_some_iff] at hid
  obtain ⟨y, hy, hyx⟩ := hid
  exact ⟨y, hy, hyx, hgen⟩

/-! ## The Order Unit -/

/-- A link without its Order List and its Release Queue. -/
def CtrlBlock.unlisted (b : CtrlBlock) : CtrlBlock := { b with orderList := [], releaseQ := [] }

/-- What the Order Unit leaves alone when it works for link l: the identities, the slots, the other links, and all
but the two lists of l. -/
def State.besideOrders (s : State) (l : CtrlIx) :
    (XtIx → BitVec 2 × Option Identity) × Vector SlotBlock 8 × (CtrlIx → CtrlBlock) :=
  (s.identity, s.slots, fun m => if l = m then (s.ctrl m).unlisted else s.ctrl m)

theorem besideOrders_onCtrl {s : State} {l : CtrlIx} {f : CtrlBlock → CtrlBlock}
    (h : (f (s.ctrl l)).unlisted = (s.ctrl l).unlisted) : (s.onCtrl l f).besideOrders l = s.besideOrders l := by
  refine Prod.ext rfl (Prod.ext rfl (funext fun m => ?_))
  by_cases hm : l = m
  · subst hm
    simp [State.besideOrders, h]
  · simp [State.besideOrders, hm]

theorem besideOrders_setPhase (s : State) (l : CtrlIx) (i : XtIx) (p : Phase) :
    (s.setPhase i p).besideOrders l = s.besideOrders l := by
  rcases exchange_eq_none_or_some s i with hx | ⟨x, hx⟩
  · simp [State.setPhase, hx]
  · rw [setPhase_of_exchange hx]
    refine Prod.ext (funext fun j => ?_) rfl
    by_cases hj : i = j
    · subst hj
      simp [State.besideOrders, State.identity, hx]
    · exact identity_of_entry_eq (entry_setEntry_ne s _ hj)

theorem besideOrders_release (s : State) (l : CtrlIx) (i : XtIx) (r : Response) :
    (s.release l i r).besideOrders l = s.besideOrders l :=
  (besideOrders_onCtrl rfl).trans (besideOrders_setPhase s l i _)

theorem besideOrders_releaseHeld (s : State) (l : CtrlIx) (i : XtIx) :
    (s.releaseHeld l i).besideOrders l = s.besideOrders l := by
  unfold State.releaseHeld
  split
  · split
    · exact besideOrders_release ..
    · rfl
  · rfl

theorem besideOrders_cascade (s : State) (l : CtrlIx) : (s.cascade l).besideOrders l = s.besideOrders l :=
  (foldl_keeps _ (·.besideOrders l) (fun u i => besideOrders_releaseHeld u l i) _ _).trans (besideOrders_onCtrl rfl)

theorem besideOrders_handToOrderUnit (s : State) (i : XtIx) (x : Exchange) (r : Response) :
    (s.handToOrderUnit i x r).besideOrders x.id.link = s.besideOrders x.id.link := by
  unfold State.handToOrderUnit
  dsimp only
  split
  · split
    · exact (besideOrders_cascade ..).trans ((besideOrders_onCtrl rfl).trans (besideOrders_release ..))
    · exact besideOrders_setPhase ..
  · exact besideOrders_release ..

theorem slots_handToOrderUnit (s : State) (i : XtIx) (x : Exchange) (r : Response) :
    (s.handToOrderUnit i x r).slots = s.slots :=
  congrArg (fun e => e.2.1) (besideOrders_handToOrderUnit s i x r)

theorem identity_handToOrderUnit (s : State) (i : XtIx) (x : Exchange) (r : Response) :
    (s.handToOrderUnit i x r).identity = s.identity :=
  congrArg Prod.fst (besideOrders_handToOrderUnit s i x r)

theorem ctrl_handToOrderUnit_ne (s : State) (i : XtIx) {x : Exchange} (r : Response) {m : CtrlIx}
    (h : x.id.link ≠ m) : (s.handToOrderUnit i x r).ctrl m = s.ctrl m := by
  have hm := congrFun (congrArg (fun e => e.2.2) (besideOrders_handToOrderUnit s i x r)) m
  simpa only [State.besideOrders, if_neg h] using hm

theorem unlisted_handToOrderUnit (s : State) (i : XtIx) (x : Exchange) (r : Response) (m : CtrlIx) :
    ((s.handToOrderUnit i x r).ctrl m).unlisted = (s.ctrl m).unlisted := by
  by_cases h : x.id.link = m
  · have hm := congrFun (congrArg (fun e => e.2.2) (besideOrders_handToOrderUnit s i x r)) m
    simpa only [State.besideOrders, if_pos h] using hm
  · rw [ctrl_handToOrderUnit_ne s i r h]

/-! ## The sums of the pools (R66, R68) -/

/-- The free blocks of a pool with those that the entries hold of it. -/
def State.blocks (s : State) (p : StorePool) : Nat := s.free p + ∑ i, (s.entry i).held p

theorem sameTotals_of_blocks_eq {s t : State} (h : t.blocks = s.blocks) : s.sameTotals t := by
  simp only [State.sameTotals, State.cmdTotal, State.generalTotal, State.reserveTotal, sum_entries]
  exact ⟨congrFun h .command, congrFun h (.response none), fun l => congrFun h (.response (some l))⟩

theorem blocks_of_stores_eq {s t : State} (h : t.stores = s.stores) : t.blocks = s.blocks := by
  funext p
  simp only [State.blocks, free_of_stores_eq h, entry_of_stores_eq h]

/-- A pool keeps its sum where one entry changes and the pool gives it what it holds more. -/
theorem blocks_of_entry_changed {s t : State} {i : XtIx} (hothers : ∀ j, j ≠ i → t.entry j = s.entry j)
    (hfree : ∀ p, t.free p + (t.entry i).held p = s.free p + (s.entry i).held p) : t.blocks = s.blocks := by
  funext p
  have hrest : ∑ j ∈ Finset.univ.erase i, (t.entry j).held p = ∑ j ∈ Finset.univ.erase i, (s.entry j).held p :=
    Finset.sum_congr rfl fun j hj => by rw [hothers j (Finset.ne_of_mem_erase hj)]
  have := hfree p
  unfold State.blocks
  rw [← Finset.add_sum_erase _ _ (Finset.mem_univ i), ← Finset.add_sum_erase _ _ (Finset.mem_univ i)]
  omega

/-- An exchange of s takes a phase in a state to which it has given back what it does not keep. -/
theorem blocks_setPhase {s u : State} {i : XtIx} {x : Exchange} {ph : Phase} (hx : s.exchange i = some x)
    (hu : u.entries = s.entries)
    (hfree : ∀ p, u.free p + (x.withPhase ph).returns 0 p = s.free p + x.returns 0 p) :
    (u.setPhase i ph).blocks = s.blocks := by
  have hentry : ∀ j, u.entry j = s.entry j := fun j => by rw [State.entry, State.entry, hu]
  have hxu : u.exchange i = some x := by rw [State.exchange, hentry]; exact hx
  rw [setPhase_of_exchange hxu]
  refine blocks_of_entry_changed (i := i) (fun j hj => ?_) fun p => ?_
  · rw [entry_setEntry_ne _ _ hj.symm, hentry]
  · rw [free_setEntry, entry_setEntry_self, held_of_live (x := x.withPhase ph) rfl, held_of_live hx, hfree]

theorem blocks_releaseHeld (s : State) (l : CtrlIx) (i : XtIx) : (s.releaseHeld l i).blocks = s.blocks := by
  unfold State.releaseHeld
  split
  next x hx =>
    split
    next r hp =>
      refine (blocks_of_stores_eq (stores_onCtrl _ _ _)).trans (blocks_setPhase hx rfl fun p => ?_)
      cases r <;> simp [Exchange.returns, Exchange.cmdSpace, Exchange.respSpace, hp]
    next => rfl
  next => rfl

theorem blocks_cascade (s : State) (l : CtrlIx) : (s.cascade l).blocks = s.blocks :=
  (foldl_keeps _ State.blocks (fun u i => blocks_releaseHeld u l i) _ _).trans
    (blocks_of_stores_eq (stores_onCtrl _ _ _))

/-- The Order Unit only places the response that it is handed. -/
theorem blocks_handToOrderUnit {s u : State} {i : XtIx} {x : Exchange} {r : Response}
    (h : ∀ ph, ph = .held r ∨ ph = .released r → (u.setPhase i ph).blocks = s.blocks) :
    (u.handToOrderUnit i x r).blocks = s.blocks := by
  have hrelease : (u.release x.id.link i r).blocks = s.blocks :=
    (blocks_of_stores_eq (stores_onCtrl _ _ _)).trans (h _ (.inr rfl))
  unfold State.handToOrderUnit
  dsimp only
  split
  · split
    · exact (blocks_cascade ..).trans ((blocks_of_stores_eq (stores_onCtrl _ _ _)).trans hrelease)
    · exact h _ (.inl rfl)
  · exact hrelease

/-- An ending without an orphan, in one change of the slot side before the Order Unit's part. -/
theorem endExchange_without_orphan {s : State} {i : XtIx} {x : Exchange} (hx : s.exchange i = some x) (r : Response) :
    s.endExchange i r false = ((s.closeSlotSide i x r.keptBlocks none).withdrawSend x.id.slot
      (.cancel (s.relayTag i))).handToOrderUnit i x r := by
  simp [State.endExchange, hx]

theorem blocks_endExchange_relay {s : State} {i : XtIx} {x : Exchange} (hx : s.exchange i = some x)
    (code : RelayCode) : (s.endExchange i (.relay code) false).blocks = s.blocks := by
  rw [endExchange_without_orphan hx]
  refine blocks_handToOrderUnit fun ph hph => blocks_setPhase hx (entries_closeSlotSide ..) fun p => ?_
  have hsum := returns_add_returns_of_ended (y := x.withPhase ph) (fits_relay x code) rfl hph p
  rw [free_of_stores_eq (stores_withdrawSend _ _ _), free_closeSlotSide]
  omega

theorem blocks_freeEntry {s : State} {i : XtIx} {x : Exchange} (hx : s.exchange i = some x) (o : Option Position) :
    (s.freeEntry i x o).blocks = s.blocks := by
  refine blocks_of_entry_changed (i := i) (fun j hj => entry_freeEntry_ne s x o hj) fun p => ?_
  rw [entry_freeEntry_self, held_of_free rfl, held_of_live hx, free_freeEntry, Nat.add_zero]

/-! ## The clock and the tables -/

/-- The clock, the queue of commands and the tables: what notices and the freeing of entries leave too. -/
def State.setting (s : State) : Nat × List Instr × (Bank × Bank × BitVec 16 × BitVec 32 × CtrlIx) :=
  (s.now, s.pending, s.tables)

theorem setting_of_ground_eq {s t : State} (h : t.ground = s.ground) : t.setting = s.setting := by
  simp only [State.ground, Prod.mk.injEq] at h
  obtain ⟨hnow, hpending, -, htables, -, -⟩ := h
  simp only [State.setting, hnow, hpending, htables]

theorem now_of_setting_eq {s t : State} (h : t.setting = s.setting) : t.now = s.now := congrArg Prod.fst h

theorem active_of_setting_eq {s t : State} (h : t.setting = s.setting) : t.active = s.active :=
  congrArg (fun e => e.2.2.2.1) h

theorem setting_freeEntry (s : State) (i : XtIx) (x : Exchange) (o : Option Position) :
    (s.freeEntry i x o).setting = s.setting :=
  (setting_of_ground_eq (ground_freeEntry s i x o)).trans rfl

theorem setting_notifyManager (s : State) (k : NoticeKind) (a : Byte) (c : NoticeCause) (d : List Byte) :
    (s.notifyManager k a c d).setting = s.setting := by
  unfold State.notifyManager
  split <;> rfl

/-! ## Slot Send Queues (R50, R51) -/

/-- A frame is a CANCEL of one of the relay tags meant. -/
def SlotFrame.isCancelOf (mine : RelayTag → Bool) : SlotFrame → Bool
  | .cancel t => mine t
  | .issue _ | .keep _ => false

/-- A withdrawal leaves the frame being sent and takes the withdrawn frame from the rest of the queue. -/
theorem sendQ_withdraw (b : SlotBlock) (f : SlotFrame) :
    (b.withdraw f).sendQ = if b.sendingHead then b.sendQ.head?.toList ++ b.sendQ.tail.filter (· != f)
      else b.sendQ.filter (· != f) := by
  unfold SlotBlock.withdraw
  cases hq : b.sendQ with
  | nil => simp [hq]
  | cons g rest => cases hs : b.sendingHead <;> simp

theorem mem_of_mem_sendQ_withdraw {b : SlotBlock} {f g : SlotFrame} (h : g ∈ (b.withdraw f).sendQ) : g ∈ b.sendQ := by
  rw [sendQ_withdraw] at h
  split at h
  · rcases List.mem_append.mp h with h | h
    · exact List.mem_of_mem_head? (Option.mem_toList.mp h)
    · exact List.mem_of_mem_tail (List.mem_of_mem_filter h)
  · exact List.mem_of_mem_filter h

/-- A link that sends nothing has no frame that escapes a withdrawal. -/
theorem not_mem_sendQ_withdraw {b : SlotBlock} (h : b.link.sending = none) (f : SlotFrame) :
    f ∉ (b.withdraw f).sendQ := by
  simp [sendQ_withdraw, SlotBlock.sendingHead, h]

/-- A withdrawal leaves the other frames in their order. -/
theorem filter_sendQ_withdraw {b : SlotBlock} {f : SlotFrame} {p : SlotFrame → Bool} (hp : p f = false) :
    (b.withdraw f).sendQ.filter p = b.sendQ.filter p := by
  have hrest : ∀ q : List SlotFrame, (q.filter (· != f)).filter p = q.filter p := fun q => by
    rw [List.filter_filter]
    refine List.filter_congr fun g _ => ?_
    by_cases hg : g = f
    · simp [hg, hp]
    · simp [hg]
  rw [sendQ_withdraw]
  split
  · rw [List.filter_append, hrest, ← List.filter_append]
    cases b.sendQ <;> rfl
  · exact hrest _

/-! ## What leaves a slot -/

/-- The slot b' is b after exchanges have left it: nothing new waits for an issue or is sent, but for CANCELs; b' has
gained the orphans os, and of the CANCELs of the tags meant it has lost none and gained cs. -/
structure SlotBlock.Sheds (mine : RelayTag → Bool) (b b' : SlotBlock) (os : List Orphan) (cs : List SlotFrame) :
    Prop where
  link : b'.link = b.link
  state : b'.state = b.state
  lastFault : b'.lastFault = b.lastFault
  orphans : b'.orphans = b.orphans ++ os
  queue : b'.queue ⊆ b.queue
  unsent : ∀ f ∈ b'.sendQ, (∃ t, f = .cancel t) ∨ f ∈ b.sendQ
  cancels : b'.sendQ.filter (SlotFrame.isCancelOf mine) = b.sendQ.filter (SlotFrame.isCancelOf mine) ++ cs

theorem sheds_refl (mine : RelayTag → Bool) (b : SlotBlock) : b.Sheds mine b [] [] where
  link := rfl
  state := rfl
  lastFault := rfl
  orphans := (List.append_nil _).symm
  queue := List.Subset.refl _
  unsent := fun _ hf => .inr hf
  cancels := (List.append_nil _).symm

theorem sheds_trans {mine : RelayTag → Bool} {a b c : SlotBlock} {os os' : List Orphan} {cs cs' : List SlotFrame}
    (h : a.Sheds mine b os cs) (h' : b.Sheds mine c os' cs') : a.Sheds mine c (os ++ os') (cs ++ cs') where
  link := h'.link.trans h.link
  state := h'.state.trans h.state
  lastFault := h'.lastFault.trans h.lastFault
  orphans := by rw [h'.orphans, h.orphans, List.append_assoc]
  queue := List.Subset.trans h'.queue h.queue
  unsent := fun f hf => (h'.unsent f hf).elim .inl (h.unsent f)
  cancels := by rw [h'.cancels, h.cancels, List.append_assoc]

theorem sheds_withdraw {mine : RelayTag → Bool} (b : SlotBlock) {f : SlotFrame} (hf : f.isCancelOf mine = false) :
    b.Sheds mine (b.withdraw f) [] [] := by
  obtain ⟨q, hq⟩ := exists_sendQ_withdraw b f
  have hcancels := filter_sendQ_withdraw (b := b) hf
  have hunsent : ∀ g ∈ (b.withdraw f).sendQ, (∃ t, g = .cancel t) ∨ g ∈ b.sendQ :=
    fun g hg => .inr (mem_of_mem_sendQ_withdraw hg)
  rw [hq] at hcancels hunsent ⊢
  exact ⟨rfl, rfl, rfl, (List.append_nil _).symm, List.Subset.refl _, hunsent, by rw [hcancels, List.append_nil]⟩

/-- An exchange has left a slot: it waits there no more, and its ISSUE and KEEP are withdrawn unless one is being
sent (R15, R51). -/
def SlotBlock.Closed (b : SlotBlock) (i : XtIx) (t : RelayTag) : Prop :=
  i ∉ b.queue ∧ (b.link.sending = none → .issue t ∉ b.sendQ ∧ .keep t ∉ b.sendQ)

theorem closed_of_sheds {mine : RelayTag → Bool} {b b' : SlotBlock} {os : List Orphan} {cs : List SlotFrame}
    {i : XtIx} {t : RelayTag} (h : b.Sheds mine b' os cs) (hb : b.Closed i t) : b'.Closed i t := by
  obtain ⟨hqueue, hsend⟩ := hb
  refine ⟨fun hi => hqueue (h.queue hi), fun hs => ?_⟩
  obtain ⟨hissue, hkeep⟩ := hsend (h.link ▸ hs)
  exact ⟨fun hm => hissue ((h.unsent _ hm).resolve_left (by simp)),
    fun hm => hkeep ((h.unsent _ hm).resolve_left (by simp))⟩

/-- The exchange at index i with relay tag t leaves the slot (R15). -/
def SlotBlock.close (b : SlotBlock) (i : XtIx) (t : RelayTag) : SlotBlock :=
  ({ b with queue := b.queue.filter (· != i) }.withdraw (.issue t)).withdraw (.keep t)

/-- Orphans join the slot's set (R16). -/
def SlotBlock.adopt (b : SlotBlock) (os : List Orphan) : SlotBlock := { b with orphans := b.orphans ++ os }

theorem adopt_nil (b : SlotBlock) : b.adopt [] = b := by simp [SlotBlock.adopt]

theorem sheds_adopt (mine : RelayTag → Bool) (b : SlotBlock) (os : List Orphan) : b.Sheds mine (b.adopt os) os [] :=
  { sheds_refl mine b with orphans := rfl }

theorem sheds_close (mine : RelayTag → Bool) (b : SlotBlock) (i : XtIx) (t : RelayTag) :
    b.Sheds mine (b.close i t) [] [] := by
  have hqueue : b.Sheds mine { b with queue := b.queue.filter (· != i) } [] [] :=
    { sheds_refl mine b with queue := List.filter_subset_self _ }
  exact sheds_trans (sheds_trans hqueue (sheds_withdraw _ (f := .issue t) rfl))
    (sheds_withdraw _ (f := .keep t) rfl)

theorem closed_close (b : SlotBlock) (i : XtIx) (t : RelayTag) : (b.close i t).Closed i t := by
  obtain ⟨q, hq⟩ := exists_sendQ_withdraw { b with queue := b.queue.filter (· != i) } (.issue t)
  obtain ⟨q', hq'⟩ := exists_sendQ_withdraw { b with queue := b.queue.filter (· != i), sendQ := q } (.keep t)
  have hclose : b.close i t = { b with queue := b.queue.filter (· != i), sendQ := q' } := by
    rw [SlotBlock.close, hq, hq']
  rw [hclose]
  refine ⟨by simp, fun hs => ⟨fun hm => ?_, ?_⟩⟩
  · have hissue := not_mem_sendQ_withdraw (b := { b with queue := b.queue.filter (· != i) }) hs (.issue t)
    rw [hq] at hissue
    exact hissue (mem_of_mem_sendQ_withdraw (f := .keep t) (hq' ▸ hm))
  · have hkeep := not_mem_sendQ_withdraw (b := { b with queue := b.queue.filter (· != i), sendQ := q }) hs (.keep t)
    rwa [hq'] at hkeep

/-- The orphan that takes over the position of the exchange with relay tag t at this moment (R102). -/
def State.orphanNow (s : State) (t : RelayTag) (p : Position) : Orphan :=
  ⟨t, p, s.now + s.active.params.orphanDeadline * 5000000⟩

theorem orphanNow_of_setting_eq {s t : State} (h : t.setting = s.setting) : t.orphanNow = s.orphanNow := by
  funext tag p
  simp only [State.orphanNow, now_of_setting_eq h, active_of_setting_eq h]

theorem addOrphan_eq (s : State) (n : SlotIx) (t : RelayTag) (p : Position) :
    s.addOrphan n t p = s.onSlot n fun b => { b with orphans := b.orphans ++ [s.orphanNow t p] } := by
  simp only [State.addOrphan, State.orphanNow, Config.cyclesPerMs, Nat.mul_assoc]

/-- Closing the slot side touches only the slot of the exchange. -/
theorem slot_closeSlotSide (s : State) (i : XtIx) (x : Exchange) (kept : Nat) (o : Option Position) (n : SlotIx) :
    (s.closeSlotSide i x kept o).slot n = if x.id.slot = n then
      ((s.slot n).close i (s.relayTag i)).adopt (o.toList.map (s.orphanNow (s.relayTag i))) else s.slot n := by
  have hnone : (s.closeSlotSide i x kept none).slot n = if x.id.slot = n then
      (s.slot n).close i (s.relayTag i) else s.slot n := by
    simp only [State.closeSlotSide, State.leaveSlotQueue, State.withdrawSend, onSlot_onSlot, slot_onSlot]
    by_cases hn : x.id.slot = n
    · subst hn
      cases x.respSpace <;> simp [SlotBlock.close]
    · cases x.respSpace <;> simp [hn]
  cases o with
  | none => rw [Option.toList_none, List.map_nil, adopt_nil, hnone]
  | some p =>
    have hadd : s.closeSlotSide i x kept (some p)
        = (s.closeSlotSide i x kept none).addOrphan x.id.slot (s.relayTag i) p := rfl
    have hnow := orphanNow_of_setting_eq (setting_of_ground_eq (ground_closeSlotSide s i x kept none))
    rw [hadd, addOrphan_eq, slot_onSlot]
    split
    next h =>
      subst h
      rw [hnone, if_pos rfl, hnow]
      rfl
    next h => rw [hnone, if_neg h]

theorem slot_endExchange_without_orphan {s : State} {i : XtIx} {x : Exchange} (hx : s.exchange i = some x)
    (r : Response) (n : SlotIx) : (s.endExchange i r false).slot n = if x.id.slot = n then
      ((s.slot n).close i (s.relayTag i)).withdraw (.cancel (s.relayTag i)) else s.slot n := by
  rw [endExchange_without_orphan hx, State.slot, slots_handToOrderUnit, ← State.slot, State.withdrawSend, slot_onSlot,
    slot_closeSlotSide, slot_closeSlotSide, Option.toList_none, List.map_nil, adopt_nil, adopt_nil]
  by_cases h : x.id.slot = n
  · subst h
    simp
  · simp [h]

end Sys2Proof.Machine
end

section
/-! PROOFS. The teardown of a departed link's entries (Section 6, R105, Table 6.4): each becomes FREE, and its slot
keeps of it an orphan and a CANCEL where its ISSUE had left. -/

namespace Sys2Proof.Machine

open Sys2Proof

/-! ## One entry -/

theorem tearDownOne_of_own {s : State} {l : CtrlIx} {i : XtIx} {x : Exchange} (hx : s.exchange i = some x)
    (hl : x.id.link = l) : s.tearDownOne l i = (s.queueCancel (s.relayTag i) x).freeEntry i x x.orphans := by
  simp only [State.tearDownOne, hx, if_pos hl]

theorem tearDownOne_of_not_own {s : State} {l : CtrlIx} {i : XtIx}
    (h : ∀ x, s.exchange i = some x → x.id.link ≠ l) : s.tearDownOne l i = s := by
  rcases exchange_eq_none_or_some s i with hx | ⟨x, hx⟩
  · simp only [State.tearDownOne, hx]
  · simp only [State.tearDownOne, hx, if_neg (h x hx)]

/-- What the freeing of an own entry leaves alone, its teardown leaves alone. -/
theorem tearDownOne_keeps {α : Type} {s : State} {l : CtrlIx} {i : XtIx} (g : State → α)
    (h : ∀ x, s.exchange i = some x → x.id.link = l →
      g ((s.queueCancel (s.relayTag i) x).freeEntry i x x.orphans) = g s) : g (s.tearDownOne l i) = g s := by
  by_cases hown : ∃ x, s.exchange i = some x ∧ x.id.link = l
  · obtain ⟨x, hx, hl⟩ := hown
    rw [tearDownOne_of_own hx hl, h x hx hl]
  · rw [tearDownOne_of_not_own fun x hx hl => hown ⟨x, hx, hl⟩]

theorem entry_queueCancel (s : State) (t : RelayTag) (x : Exchange) (i : XtIx) :
    (s.queueCancel t x).entry i = s.entry i :=
  entry_of_stores_eq (stores_queueCancel s t x) i

theorem ctrl_queueCancel (s : State) (t : RelayTag) (x : Exchange) (m : CtrlIx) :
    (s.queueCancel t x).ctrl m = s.ctrl m := by
  unfold State.queueCancel
  split <;> rfl

theorem entry_tearDownOne_self {s : State} {l : CtrlIx} {i : XtIx} {x : Exchange} (hx : s.exchange i = some x)
    (hl : x.id.link = l) : (s.tearDownOne l i).entry i = { gen := (s.entry i).gen + 1, live := none } := by
  rw [tearDownOne_of_own hx hl, entry_freeEntry_self, entry_queueCancel]

theorem entry_tearDownOne_ne (s : State) (l : CtrlIx) {i j : XtIx} (h : j ≠ i) :
    (s.tearDownOne l i).entry j = s.entry j :=
  tearDownOne_keeps (·.entry j) fun x _ _ => by rw [entry_freeEntry_ne _ _ _ h, entry_queueCancel]

theorem blocks_tearDownOne (s : State) (l : CtrlIx) (i : XtIx) : (s.tearDownOne l i).blocks = s.blocks :=
  tearDownOne_keeps State.blocks fun x hx _ => by
    rw [blocks_freeEntry (by rwa [State.exchange, entry_queueCancel]), blocks_of_stores_eq (stores_queueCancel ..)]

theorem setting_tearDownOne (s : State) (l : CtrlIx) (i : XtIx) : (s.tearDownOne l i).setting = s.setting :=
  tearDownOne_keeps State.setting fun x _ _ =>
    (setting_freeEntry ..).trans (setting_of_ground_eq (ground_queueCancel s _ x))

/-- Of the links the teardown touches only the two lists of the departed one. -/
theorem ctrl_tearDownOne_ne (s : State) {l m : CtrlIx} (i : XtIx) (h : m ≠ l) :
    (s.tearDownOne l i).ctrl m = s.ctrl m :=
  tearDownOne_keeps (·.ctrl m) fun x _ hl => by rw [ctrl_freeEntry, if_neg (hl ▸ h.symm), ctrl_queueCancel]

theorem unlisted_tearDownOne (s : State) (l : CtrlIx) (i : XtIx) :
    ((s.tearDownOne l i).ctrl l).unlisted = (s.ctrl l).unlisted :=
  tearDownOne_keeps (fun s => (s.ctrl l).unlisted) fun x _ hl => by
    rw [ctrl_freeEntry, if_pos hl, ctrl_queueCancel]
    rfl

/-! ## The slot side of one entry -/

/-- What a torn-down exchange leaves: its relay tag, the position an orphan takes over, and whether a CANCEL is
appended. -/
abbrev Remnant := RelayTag × Position × Bool

/-- What the exchange with relay tag t leaves at its slot. -/
def Exchange.remnant (x : Exchange) (t : RelayTag) : Option Remnant := x.phase.slotSide.map fun e => (t, e)

/-- What an own exchange leaves at slot n. -/
def State.remnantAt (s : State) (l : CtrlIx) (n : SlotIx) (i : XtIx) : Option Remnant :=
  match s.exchange i with
  | some x => if x.id.slot = n ∧ x.id.link = l then x.remnant (s.relayTag i) else none
  | none => none

/-- The orphans made for what exchanges leave (R105). -/
def State.orphansFor (s : State) (rs : List Remnant) : List Orphan := rs.map fun e => s.orphanNow e.1 e.2.1

/-- The CANCELs appended for what exchanges leave (R96). -/
def cancelsFor (rs : List Remnant) : List SlotFrame := rs.filterMap fun e => if e.2.2 then some (.cancel e.1) else none

theorem remnantAt_of_own {s : State} {l : CtrlIx} {n : SlotIx} {i : XtIx} {x : Exchange} (hx : s.exchange i = some x)
    (hn : x.id.slot = n) (hl : x.id.link = l) : s.remnantAt l n i = x.remnant (s.relayTag i) := by
  simp only [State.remnantAt, hx, if_pos (And.intro hn hl)]

theorem remnantAt_of_not_own {s : State} {l : CtrlIx} {n : SlotIx} {i : XtIx}
    (h : ∀ x, s.exchange i = some x → ¬ (x.id.slot = n ∧ x.id.link = l)) : s.remnantAt l n i = none := by
  rcases exchange_eq_none_or_some s i with hx | ⟨x, hx⟩
  · simp only [State.remnantAt, hx]
  · simp only [State.remnantAt, hx, if_neg (h x hx)]

theorem remnantAt_of_entry_eq {s t : State} {l : CtrlIx} {n : SlotIx} {i : XtIx} (h : t.entry i = s.entry i) :
    t.remnantAt l n i = s.remnantAt l n i := by
  simp only [State.remnantAt, State.exchange, State.relayTag, h]

theorem tag_of_mem_remnant {x : Exchange} {t : RelayTag} {e : Remnant} (h : e ∈ x.remnant t) : e.1 = t := by
  obtain ⟨_, _, rfl⟩ := Option.map_eq_some_iff.mp h
  rfl

theorem abandoned_eq (s : State) (l : CtrlIx) (n : SlotIx) :
    s.abandoned n (fun x => x.id.link == l) = s.admissionOrder.filterMap (s.remnantAt l n) := by
  refine List.filterMap_congr fun i _ => ?_
  rcases exchange_eq_none_or_some s i with hx | ⟨x, hx⟩ <;> simp [State.remnantAt, Exchange.remnant, hx]

theorem orphansMade_eq (s : State) (l : CtrlIx) (n : SlotIx) :
    s.orphansMade n (fun x => x.id.link == l) = s.orphansFor (s.admissionOrder.filterMap (s.remnantAt l n)) := by
  rw [State.orphansMade, abandoned_eq]
  rfl

theorem cancelsMade_eq (s : State) (l : CtrlIx) (n : SlotIx) :
    s.cancelsMade n (fun x => x.id.link == l) = cancelsFor (s.admissionOrder.filterMap (s.remnantAt l n)) := by
  rw [State.cancelsMade, abandoned_eq]
  rfl

theorem orphans_eq_map_remnant (x : Exchange) (t : RelayTag) : x.orphans = (x.remnant t).map fun e => e.2.1 := by
  rcases x with ⟨id, phase⟩
  cases phase with
  | active c _ _ => cases c <;> rfl
  | _ => rfl

/-- CANCELs join a slot's queue for what exchanges leave (R96). -/
def SlotBlock.queueCancels (b : SlotBlock) (rs : List Remnant) : SlotBlock :=
  { b with sendQ := b.sendQ ++ cancelsFor rs }

theorem queueCancels_of_none (b : SlotBlock) {rs : List Remnant} (h : cancelsFor rs = []) : b.queueCancels rs = b := by
  rw [SlotBlock.queueCancels, h, List.append_nil]

theorem slot_queueCancel (s : State) (t : RelayTag) (x : Exchange) (n : SlotIx) :
    (s.queueCancel t x).slot n
      = if x.id.slot = n then (s.slot n).queueCancels (x.remnant t).toList else s.slot n := by
  have hsend : (s.queueSend x.id.slot (.cancel t)).slot n
      = if x.id.slot = n then { s.slot n with sendQ := (s.slot n).sendQ ++ [.cancel t] } else s.slot n := by
    rw [State.queueSend, slot_onSlot]
    split
    next h => subst h; rfl
    next => rfl
  have hstay : cancelsFor (x.remnant t).toList = [] →
      s.slot n = if x.id.slot = n then (s.slot n).queueCancels (x.remnant t).toList else s.slot n := fun h => by
    rw [queueCancels_of_none _ h, ite_self]
  rcases x with ⟨id, phase⟩
  cases phase with
  | active c _ _ =>
    cases c with
    | none => exact hsend
    | some _ => exact hstay rfl
  | parked _ _ => exact hsend
  | _ => exact hstay rfl

/-- The slot of a torn-down exchange: a CANCEL joins its queue, the exchange leaves it, an orphan joins its set. -/
theorem slot_tearDownOne_of_own {s : State} {l : CtrlIx} {i : XtIx} {x : Exchange} (hx : s.exchange i = some x)
    (hl : x.id.link = l) : (s.tearDownOne l i).slot x.id.slot
      = (((s.slot x.id.slot).queueCancels (x.remnant (s.relayTag i)).toList).close i (s.relayTag i)).adopt
        (s.orphansFor (x.remnant (s.relayTag i)).toList) := by
  have htag : (s.queueCancel (s.relayTag i) x).relayTag i = s.relayTag i := by
    rw [State.relayTag, entry_queueCancel, State.relayTag]
  have hnow := orphanNow_of_setting_eq (setting_of_ground_eq (ground_queueCancel s (s.relayTag i) x))
  have horphans : x.orphans.toList.map (s.orphanNow (s.relayTag i))
      = s.orphansFor (x.remnant (s.relayTag i)).toList := by
    rw [orphans_eq_map_remnant x (s.relayTag i)]
    cases hr : x.remnant (s.relayTag i) with
    | none => rfl
    | some e =>
      have he : e.1 = s.relayTag i := tag_of_mem_remnant hr
      simp [State.orphansFor, he]
  rw [tearDownOne_of_own hx hl, slot_freeEntry, slot_closeSlotSide, if_pos rfl, slot_queueCancel, if_pos rfl, htag,
    hnow, horphans]

theorem slot_tearDownOne_of_not_own {s : State} {l : CtrlIx} {n : SlotIx} {i : XtIx}
    (h : ∀ x, s.exchange i = some x → ¬ (x.id.slot = n ∧ x.id.link = l)) : (s.tearDownOne l i).slot n = s.slot n :=
  tearDownOne_keeps (·.slot n) fun x hx hl => by
    have hn : x.id.slot ≠ n := fun hn => h x hx ⟨hn, hl⟩
    rw [slot_freeEntry, slot_closeSlotSide, if_neg hn, slot_queueCancel, if_neg hn]

theorem sheds_queueCancels {mine : RelayTag → Bool} (b : SlotBlock) {rs : List Remnant}
    (h : ∀ e ∈ rs, mine e.1 = true) :
    b.Sheds mine (b.queueCancels rs) [] (cancelsFor rs) := by
  have hcancel : ∀ f ∈ cancelsFor rs, ∃ t, f = .cancel t ∧ mine t = true := by
    intro f hf
    obtain ⟨e, he, hfe⟩ := List.mem_filterMap.mp hf
    refine ⟨e.1, ?_, h e he⟩
    split at hfe
    · exact (Option.some.inj hfe).symm
    · cases hfe
  have hall : (cancelsFor rs).filter (SlotFrame.isCancelOf mine) = cancelsFor rs :=
    List.filter_eq_self.mpr fun f hf => by
      obtain ⟨t, rfl, ht⟩ := hcancel f hf
      exact ht
  refine { sheds_refl mine b with
           unsent := fun f hf => ?_, cancels := by rw [SlotBlock.queueCancels, List.filter_append, hall] }
  rcases List.mem_append.mp hf with hf | hf
  · exact .inr hf
  · obtain ⟨t, ht, -⟩ := hcancel f hf
    exact .inl ⟨t, ht⟩

theorem sheds_tearDownOne {mine : RelayTag → Bool} {s : State} {l : CtrlIx} {i : XtIx}
    (hmine : ∀ x, s.exchange i = some x → x.id.link = l → mine (s.relayTag i) = true) (n : SlotIx) :
    (s.slot n).Sheds mine ((s.tearDownOne l i).slot n) (s.orphansFor (s.remnantAt l n i).toList)
      (cancelsFor (s.remnantAt l n i).toList) := by
  by_cases hown : ∃ x, s.exchange i = some x ∧ x.id.slot = n ∧ x.id.link = l
  · obtain ⟨x, hx, rfl, hl⟩ := hown
    have htags : ∀ e ∈ (x.remnant (s.relayTag i)).toList, mine e.1 = true := fun e he =>
      tag_of_mem_remnant (Option.mem_toList.mp he) ▸ hmine x hx hl
    rw [remnantAt_of_own hx rfl hl, slot_tearDownOne_of_own hx hl]
    have hsheds := sheds_trans (sheds_trans (sheds_queueCancels (s.slot x.id.slot) htags)
      (sheds_close mine _ i (s.relayTag i))) (sheds_adopt mine _ (s.orphansFor (x.remnant (s.relayTag i)).toList))
    simpa only [List.nil_append, List.append_nil] using hsheds
  · have hnot : ∀ x, s.exchange i = some x → ¬ (x.id.slot = n ∧ x.id.link = l) := fun x hx h => hown ⟨x, hx, h⟩
    rw [remnantAt_of_not_own hnot, slot_tearDownOne_of_not_own hnot]
    exact sheds_refl mine _

theorem closed_tearDownOne {s : State} {l : CtrlIx} {i : XtIx} {x : Exchange} (hx : s.exchange i = some x)
    (hl : x.id.link = l) : ((s.tearDownOne l i).slot x.id.slot).Closed i (s.relayTag i) := by
  rw [slot_tearDownOne_of_own hx hl]
  exact closed_of_sheds (sheds_adopt (fun _ => true) _ _) (closed_close _ i _)

/-! ## A list of entries -/

/-- The entries of a list are torn down one after another. -/
def State.tearDownList (s : State) (l : CtrlIx) (is : List XtIx) : State := is.foldl (fun s i => s.tearDownOne l i) s

theorem tearDownList_cons (s : State) (l : CtrlIx) (i : XtIx) (is : List XtIx) :
    s.tearDownList l (i :: is) = (s.tearDownOne l i).tearDownList l is := rfl

theorem blocks_tearDownList (s : State) (l : CtrlIx) (is : List XtIx) : (s.tearDownList l is).blocks = s.blocks :=
  foldl_keeps _ State.blocks (fun u i => blocks_tearDownOne u l i) is s

theorem setting_tearDownList (s : State) (l : CtrlIx) (is : List XtIx) : (s.tearDownList l is).setting = s.setting :=
  foldl_keeps _ State.setting (fun u i => setting_tearDownOne u l i) is s

theorem ctrl_tearDownList_ne (s : State) {l m : CtrlIx} (is : List XtIx) (h : m ≠ l) :
    (s.tearDownList l is).ctrl m = s.ctrl m :=
  foldl_keeps _ (·.ctrl m) (fun u i => ctrl_tearDownOne_ne u i h) is s

theorem unlisted_tearDownList (s : State) (l : CtrlIx) (is : List XtIx) :
    ((s.tearDownList l is).ctrl l).unlisted = (s.ctrl l).unlisted :=
  foldl_keeps _ (fun u => (u.ctrl l).unlisted) (fun u i => unlisted_tearDownOne u l i) is s

theorem entry_tearDownList_of_not_own {s : State} {l : CtrlIx} {i : XtIx}
    (h : ∀ x, s.exchange i = some x → x.id.link ≠ l) (is : List XtIx) :
    (s.tearDownList l is).entry i = s.entry i := by
  induction is generalizing s with
  | nil => rfl
  | cons j is ih =>
    have hstep : (s.tearDownOne l j).entry i = s.entry i := by
      by_cases hij : i = j
      · subst hij
        rw [tearDownOne_of_not_own h]
      · exact entry_tearDownOne_ne s l hij
    rw [tearDownList_cons, ih (by rwa [State.exchange, hstep]), hstep]

/-- An own entry of the list becomes FREE, and its generation advances once (R18). -/
theorem entry_tearDownList_of_own {s : State} {l : CtrlIx} {i : XtIx} {x : Exchange} (hx : s.exchange i = some x)
    (hl : x.id.link = l) {is : List XtIx} (hi : i ∈ is) :
    (s.tearDownList l is).entry i = { gen := (s.entry i).gen + 1, live := none } := by
  induction is generalizing s with
  | nil => cases hi
  | cons j is ih =>
    rw [tearDownList_cons]
    by_cases hij : i = j
    · subst hij
      have hfree := entry_tearDownOne_self hx hl
      have hnone : (s.tearDownOne l i).exchange i = none := by rw [State.exchange, hfree]
      rw [entry_tearDownList_of_not_own (by simp [hnone]), hfree]
    · have hstep := entry_tearDownOne_ne s l hij
      rw [ih (by rwa [State.exchange, hstep]) ((List.mem_cons.mp hi).resolve_left hij), hstep]

/-- What the slots keep of the entries torn down, in the order of the list. -/
theorem sheds_tearDownList {mine : RelayTag → Bool} {s : State} {l : CtrlIx} {is : List XtIx} (hnodup : is.Nodup)
    (hmine : ∀ i ∈ is, ∀ x, s.exchange i = some x → x.id.link = l → mine (s.relayTag i) = true) (n : SlotIx) :
    (s.slot n).Sheds mine ((s.tearDownList l is).slot n) (s.orphansFor (is.filterMap (s.remnantAt l n)))
      (cancelsFor (is.filterMap (s.remnantAt l n))) := by
  induction is generalizing s with
  | nil => exact sheds_refl mine _
  | cons i is ih =>
    obtain ⟨hi, hrest⟩ := List.nodup_cons.mp hnodup
    have hentry : ∀ j ∈ is, (s.tearDownOne l i).entry j = s.entry j := fun j hj =>
      entry_tearDownOne_ne s l (ne_of_mem_of_not_mem hj hi)
    have htail := ih (s := s.tearDownOne l i) hrest fun j hj x hx hl => by
      rw [State.exchange, hentry j hj] at hx
      rw [State.relayTag, hentry j hj]
      exact hmine j (List.mem_cons_of_mem i hj) x hx hl
    have hsame : is.filterMap ((s.tearDownOne l i).remnantAt l n) = is.filterMap (s.remnantAt l n) :=
      List.filterMap_congr fun j hj => remnantAt_of_entry_eq (hentry j hj)
    have hnow : (s.tearDownOne l i).orphansFor = s.orphansFor := by
      funext rs
      simp only [State.orphansFor, orphanNow_of_setting_eq (setting_tearDownOne s l i)]
    have hcons : (i :: is).filterMap (s.remnantAt l n)
        = (s.remnantAt l n i).toList ++ is.filterMap (s.remnantAt l n) := by
      cases h : s.remnantAt l n i <;> simp [h]
    rw [hsame, hnow] at htail
    rw [tearDownList_cons, hcons, State.orphansFor, List.map_append, cancelsFor, List.filterMap_append]
    exact sheds_trans (sheds_tearDownOne (hmine i List.mem_cons_self) n) htail

/-- An own entry of the list has left its slot. -/
theorem closed_tearDownList {s : State} {l : CtrlIx} {i : XtIx} {x : Exchange} (hx : s.exchange i = some x)
    (hl : x.id.link = l) {is : List XtIx} (hnodup : is.Nodup) (hi : i ∈ is) :
    ((s.tearDownList l is).slot x.id.slot).Closed i (s.relayTag i) := by
  induction is generalizing s with
  | nil => cases hi
  | cons j is ih =>
    obtain ⟨hj, hrest⟩ := List.nodup_cons.mp hnodup
    rw [tearDownList_cons]
    by_cases hij : i = j
    · subst hij
      exact closed_of_sheds (sheds_tearDownList (mine := fun _ => true) hrest (fun _ _ _ _ _ => rfl) _)
        (closed_tearDownOne hx hl)
    · have hstep := entry_tearDownOne_ne s l hij
      have htag : (s.tearDownOne l j).relayTag i = s.relayTag i := by rw [State.relayTag, hstep, State.relayTag]
      exact htag ▸ ih (by rwa [State.exchange, hstep]) hrest ((List.mem_cons.mp hi).resolve_left hij)

end Sys2Proof.Machine
end

section
/-! PROOFS. The departed link leaves the reservation records, and the hand-overs that follow spare it (Section 7, R118,
R121). -/

namespace Sys2Proof.Machine

open Sys2Proof

/-! ## What spares a departed link -/

/-- What a link has besides its notices and its order lists. -/
def CtrlBlock.station (b : CtrlBlock) : LinkBlock × List ReplyItem × Option CmdFrame := (b.link, b.replyQ, b.offered)

theorem station_of_unlisted_eq {b b' : CtrlBlock} (h : b'.unlisted = b.unlisted) : b'.station = b.station := by
  have hstation := congrArg CtrlBlock.station h
  exact hstation

/-- A change from s to t that concerns other links than l, and no entry of the tags meant: identities and pools stay,
link l as a whole, of the other links all but notices and order lists, and of each slot all that `Sheds` keeps. -/
structure State.Spares (l : CtrlIx) (mine : RelayTag → Bool) (s t : State) : Prop where
  identity : t.identity = s.identity
  own : t.ctrl l = s.ctrl l
  station : ∀ m, (t.ctrl m).station = (s.ctrl m).station
  slots : ∀ n, (s.slot n).Sheds mine (t.slot n) [] []
  blocks : t.blocks = s.blocks
  setting : t.setting = s.setting

/-- No entry is live for link l or with a tag that is meant. -/
def State.Gone (s : State) (l : CtrlIx) (mine : RelayTag → Bool) : Prop :=
  ∀ i x, s.exchange i = some x → x.id.link ≠ l ∧ mine (s.relayTag i) = false

section Spares

variable {l : CtrlIx} {mine : RelayTag → Bool}

theorem spares_refl (s : State) : s.Spares l mine s :=
  ⟨rfl, rfl, fun _ => rfl, fun _ => sheds_refl mine _, rfl, rfl⟩

theorem spares_trans {s t u : State} (h : s.Spares l mine t) (h' : t.Spares l mine u) : s.Spares l mine u where
  identity := h'.identity.trans h.identity
  own := h'.own.trans h.own
  station := fun m => (h'.station m).trans (h.station m)
  slots := fun n => sheds_trans (h.slots n) (h'.slots n)
  blocks := h'.blocks.trans h.blocks
  setting := h'.setting.trans h.setting

theorem gone_of_spares {s t : State} (hs : s.Gone l mine) (h : s.Spares l mine t) : t.Gone l mine := by
  intro i y hy
  obtain ⟨x, hx, hid, hgen⟩ := exists_exchange_of_identity_eq (congrFun h.identity i).symm hy
  obtain ⟨hl, hm⟩ := hs i x hx
  exact ⟨hid ▸ hl, by rwa [State.relayTag, ← hgen]⟩

/-- A chain of changes that each spare a departed link spares it. -/
theorem spares_foldl {β : Type} {f : State → β → State} {s : State} (hs : s.Gone l mine) (bs : List β)
    (h : ∀ u : State, u.Gone l mine → ∀ b, u.Spares l mine (f u b)) : s.Spares l mine (bs.foldl f s) :=
  List.foldlRecOn bs f (spares_refl s) fun u hu b _ => spares_trans hu (h u (gone_of_spares hs hu) b)

/-- The ending of another link's exchange. -/
theorem spares_endExchange {s : State} {i : XtIx} {x : Exchange} (hx : s.exchange i = some x) (hs : s.Gone l mine)
    (code : RelayCode) : s.Spares l mine (s.endExchange i (.relay code) false) := by
  obtain ⟨hl, hm⟩ := hs i x hx
  refine { blocks := blocks_endExchange_relay hx code, setting := setting_of_ground_eq (ground_endExchange ..),
           slots := fun n => ?slots, identity := ?identity, own := ?own, station := fun m => ?station }
  case slots =>
    rw [slot_endExchange_without_orphan hx]
    split
    · exact sheds_trans (sheds_close mine _ i _) (sheds_withdraw _ hm)
    · exact sheds_refl mine _
  case identity =>
    rw [endExchange_without_orphan hx, identity_handToOrderUnit]
    exact identity_of_entries_eq (entries_closeSlotSide ..)
  case own =>
    rw [endExchange_without_orphan hx, ctrl_handToOrderUnit_ne _ _ _ hl, State.withdrawSend, ctrl_onSlot,
      ctrl_closeSlotSide]
  case station =>
    refine station_of_unlisted_eq ?_
    rw [endExchange_without_orphan hx, unlisted_handToOrderUnit, State.withdrawSend, ctrl_onSlot, ctrl_closeSlotSide]

theorem spares_onResv (s : State) (n : SlotIx) (f : Reservation → Reservation) : s.Spares l mine (s.onResv n f) := by
  refine { spares_refl (l := l) (mine := mine) s with
           slots := fun m => ?_, blocks := blocks_of_stores_eq (stores_onResv s n f) }
  rw [State.onResv, slot_onSlot]
  split
  next h => exact h ▸ { sheds_refl mine (s.slot n) with link := rfl }
  next => exact sheds_refl mine _

theorem spares_makeHolder (s : State) (n : SlotIx) (m : CtrlIx) : s.Spares l mine (s.makeHolder n m) := by
  unfold State.makeHolder State.startLease
  exact spares_trans (spares_onResv ..) (spares_onResv ..)

/-- A notice to another link. -/
theorem spares_notify (s : State) {m : CtrlIx} (hm : m ≠ l) (k : NoticeKind) (a : Byte) (c : NoticeCause)
    (d : List Byte) : s.Spares l mine (s.notify m k a c d) := by
  have hctrl : ∀ j, (s.notify m k a c d).ctrl j
      = if m = j then (s.ctrl m).addNotice ⟨s.noticeId, k, a, c, d⟩ else s.ctrl j := fun j =>
    ctrl_onCtrl s m j (·.addNotice ⟨s.noticeId, k, a, c, d⟩)
  refine { spares_refl (l := l) (mine := mine) s with
           blocks := blocks_of_stores_eq (stores_notify ..), own := by rw [hctrl, if_neg hm], station := fun j => ?_ }
  rw [hctrl]
  split
  next h =>
    subst h
    unfold CtrlBlock.addNotice
    split <;> rfl
  next => rfl

/-! ## Grants and hand-overs (R118, R119) -/

theorem spares_preempt {s : State} (hs : s.Gone l mine) (n : SlotIx) (m : CtrlIx) :
    s.Spares l mine (s.preempt n m) := by
  refine spares_foldl hs _ fun u hu i => ?_
  unfold State.preemptOne
  split
  next x hx =>
    split
    · exact spares_endExchange hx hu .preempted
    · exact spares_refl u
  next => exact spares_refl u

/-- A hand-over to waiters other than the departed link. -/
theorem spares_handOverTo {s : State} (hs : s.Gone l mine) (n : SlotIx) {ws : List CtrlIx} (hl : l ∉ ws) :
    s.Spares l mine (s.handOverTo n ws) := by
  induction ws generalizing s with
  | nil => exact spares_onResv s n _
  | cons w ws ih =>
    obtain ⟨hw, hws⟩ := not_or.mp fun h => hl (List.mem_cons.mpr h)
    unfold State.handOverTo
    split
    · have hgranted : s.Spares l mine (((s.onResv n fun r => { r with waiting := ws }).makeHolder n w).notify w
          .resvGranted (slotByte n) .none []) :=
        spares_trans (spares_trans (spares_onResv ..) (spares_makeHolder ..)) (spares_notify _ (Ne.symm hw) ..)
      exact spares_trans hgranted (spares_preempt (gone_of_spares hs hgranted) n w)
    · have htold : s.Spares l mine (s.notify w .waitEnded (slotByte n) .access []) :=
        spares_notify s (Ne.symm hw) ..
      exact spares_trans htold (ih (gone_of_spares hs htold) hws)

/-- The departed link has left the waiting list before the hand-over (R121). -/
theorem spares_dropLinkAt {s : State} (hs : s.Gone l mine) (n : SlotIx) : s.Spares l mine (s.dropLinkAt l n) := by
  have hleft : s.Spares l mine (s.onResv n fun r => { r with waiting := r.waiting.filter (· != l) }) :=
    spares_onResv s n _
  have hwaits : l ∉ ((s.onResv n fun r => { r with waiting := r.waiting.filter (· != l) }).slot n).resv.waiting := by
    simp [State.onResv]
  unfold State.dropLinkAt
  dsimp only
  split
  · have hfree := spares_trans hleft (spares_onResv _ n fun r => { r with holder := none, lease := none })
    exact spares_trans hfree (spares_handOverTo (gone_of_spares hs hfree) n hwaits)
  · exact hleft

theorem spares_dropLink {s : State} (hs : s.Gone l mine) : s.Spares l mine (s.dropLink l) :=
  spares_foldl hs _ fun _ hu n => spares_dropLinkAt hu n

end Spares

/-! ## The reservation records (R121) -/

theorem resv_withdraw (b : SlotBlock) (f : SlotFrame) : (b.withdraw f).resv = b.resv := by
  obtain ⟨q, hq⟩ := exists_sendQ_withdraw b f
  rw [hq]

theorem resv_endExchange (s : State) (i : XtIx) (r : Response) (n : SlotIx) :
    ((s.endExchange i r false).slot n).resv = (s.slot n).resv := by
  rcases exchange_eq_none_or_some s i with hx | ⟨x, hx⟩
  · simp only [State.endExchange, hx]
  · rw [slot_endExchange_without_orphan hx]
    split
    · simp only [SlotBlock.close, resv_withdraw]
    · rfl

theorem resv_preempt (s : State) (n m : SlotIx) (l : CtrlIx) :
    ((s.preempt n l).slot m).resv = (s.slot m).resv := by
  refine foldl_keeps _ (fun u => (u.slot m).resv) (fun u i => ?_) _ _
  unfold State.preemptOne
  split
  · split
    · exact resv_endExchange ..
    · rfl
  · rfl

theorem resv_onResv_ne (s : State) {n m : SlotIx} (f : Reservation → Reservation) (h : m ≠ n) :
    ((s.onResv n f).slot m).resv = (s.slot m).resv := by
  rw [State.onResv, slot_onSlot_ne _ _ h.symm]

theorem resv_handOverTo_ne (s : State) {n m : SlotIx} (ws : List CtrlIx) (h : m ≠ n) :
    ((s.handOverTo n ws).slot m).resv = (s.slot m).resv := by
  induction ws generalizing s with
  | nil => exact resv_onResv_ne s _ h
  | cons w ws ih =>
    unfold State.handOverTo
    split
    · simp only [resv_preempt, slot_notify, State.makeHolder, State.startLease, resv_onResv_ne _ _ h]
    · rw [ih, slot_notify]

theorem resv_dropLinkAt_ne (s : State) (l : CtrlIx) {n m : SlotIx} (h : m ≠ n) :
    ((s.dropLinkAt l n).slot m).resv = (s.slot m).resv := by
  unfold State.dropLinkAt
  dsimp only
  split
  · rw [State.handOver, resv_handOverTo_ne _ _ h, resv_onResv_ne _ _ h, resv_onResv_ne _ _ h]
  · exact resv_onResv_ne s _ h

/-- A link has no place in a reservation record. -/
def Reservation.Lacks (r : Reservation) (l : CtrlIx) : Prop := r.holder ≠ some l ∧ l ∉ r.waiting

theorem lacks_handOverTo {s : State} {l : CtrlIx} {n : SlotIx} {ws : List CtrlIx}
    (hholder : (s.slot n).resv.holder ≠ some l) (hws : l ∉ ws) : ((s.handOverTo n ws).slot n).resv.Lacks l := by
  induction ws generalizing s with
  | nil => simpa [State.handOverTo, State.onResv, Reservation.Lacks] using hholder
  | cons w ws ih =>
    obtain ⟨hw, hrest⟩ := not_or.mp fun h => hws (List.mem_cons.mpr h)
    unfold State.handOverTo
    split
    · rw [resv_preempt, slot_notify]
      simpa [State.makeHolder, State.startLease, State.onResv, Reservation.Lacks] using ⟨Ne.symm hw, hrest⟩
    · exact ih hholder hrest

theorem lacks_dropLinkAt (s : State) (l : CtrlIx) (n : SlotIx) : ((s.dropLinkAt l n).slot n).resv.Lacks l := by
  unfold State.dropLinkAt
  dsimp only
  split
  · exact lacks_handOverTo (by simp [State.onResv]) (by simp [State.onResv])
  next h => exact ⟨h, by simp [State.onResv]⟩

/-- The departed link has no place in the record of a slot it has been dropped at, nor where it had none. -/
theorem lacks_foldl_dropLinkAt {s : State} {l : CtrlIx} {n : SlotIx} {ns : List SlotIx}
    (h : n ∈ ns ∨ (s.slot n).resv.Lacks l) : ((ns.foldl (fun s n => s.dropLinkAt l n) s).slot n).resv.Lacks l := by
  induction ns generalizing s with
  | nil => exact h.resolve_left (by simp)
  | cons m ns ih =>
    rw [List.foldl_cons]
    refine ih ?_
    by_cases hm : n = m
    · exact .inr (hm ▸ lacks_dropLinkAt s l m)
    · rw [resv_dropLinkAt_ne s l hm]
      exact h.imp_left fun hn => (List.mem_cons.mp hn).resolve_left hm

theorem lacks_dropLink (s : State) (l : CtrlIx) (n : SlotIx) : ((s.dropLink l).slot n).resv.Lacks l :=
  lacks_foldl_dropLinkAt (.inl (List.mem_finRange n))

end Sys2Proof.Machine
end

section
/-! PROOFS. The departure of a Controller Link (Section 11, R168): its entries are torn down and its queues emptied, it
leaves the reservation records, and the manager is told (R105, R88, R121, R164, R166). -/

namespace Sys2Proof.Machine

open Sys2Proof

/-! ## The three parts of a departure -/

/-- The link has left UP, and the causes that go with it wait no more (R106, R155). -/
def State.leftUp (s : State) (l : CtrlIx) : State :=
  (s.withWaiting (s.waiting.filter fun w => !w.goesWith l)).onCtrl l (·.onLink (·.leaveUp))

/-- The departed link's entries are torn down and its queues emptied; it still stands in the reservation records. -/
def State.tornDown (s : State) (l : CtrlIx) : State :=
  ((s.leftUp l).tearDownList l s.admissionOrder).onCtrl l CtrlBlock.emptyQueues

/-- The manager is told LINK_DOWN, and the link is where its departure leads. -/
def State.tellDown (s : State) (l : CtrlIx) (cause : DepartCause) : State :=
  let s := s.notifyManager .linkDown (ctrlByte l) cause.notice []
  s.onCtrl l (·.onLink (·.depart Config.ctrlBufferPlaces s.now cause))

/-- The manager is told LINK_DOWN, and LINK_UP after a partner restart. -/
def State.tellDeparture (s : State) (l : CtrlIx) (cause : DepartCause) : State :=
  let s := s.tellDown l cause
  if cause.returns then s.notifyManager .linkUp (ctrlByte l) .none [] else s

theorem departCtrl_eq (s : State) (l : CtrlIx) (cause : DepartCause) :
    s.departCtrl l cause = ((s.tornDown l).dropLink l).tellDeparture l cause := rfl

/-! ## The link torn down -/

/-- A relay tag names the entry of a live exchange of link l. -/
def State.owns (s : State) (l : CtrlIx) (t : RelayTag) : Bool := s.exchangeIs t.index fun x => x.id.link == l

theorem owns_of_exchange {s : State} {l : CtrlIx} {i : XtIx} {x : Exchange} (hx : s.exchange i = some x) :
    s.owns l (s.relayTag i) = (x.id.link == l) := by
  simp only [State.owns, State.exchangeIs, State.relayTag, hx]

theorem mem_admissionOrder_of_exchange {s : State} (ha : s.admissionOk) {i : XtIx} {x : Exchange}
    (hx : s.exchange i = some x) : i ∈ s.admissionOrder := by
  obtain ⟨-, hlive⟩ := ha
  exact (hlive i).mpr (by simp [hx])

theorem entry_tornDown_of_not_own {s : State} {l : CtrlIx} {i : XtIx}
    (h : ∀ x, s.exchange i = some x → x.id.link ≠ l) : (s.tornDown l).entry i = s.entry i :=
  entry_tearDownList_of_not_own (s := s.leftUp l) h _

theorem entry_tornDown_of_own {s : State} (ha : s.admissionOk) {l : CtrlIx} {i : XtIx} {x : Exchange}
    (hx : s.exchange i = some x) (hl : x.id.link = l) :
    (s.tornDown l).entry i = { gen := (s.entry i).gen + 1, live := none } :=
  entry_tearDownList_of_own (s := s.leftUp l) hx hl (mem_admissionOrder_of_exchange ha hx)

theorem ctrl_tornDown_self (s : State) (l : CtrlIx) :
    (s.tornDown l).ctrl l = ((s.ctrl l).onLink (·.leaveUp)).emptyQueues := by
  have hempty := congrArg CtrlBlock.emptyQueues (unlisted_tearDownList (s.leftUp l) l s.admissionOrder)
  rw [State.leftUp, ctrl_onCtrl_self] at hempty
  rw [State.tornDown, ctrl_onCtrl_self]
  exact hempty

theorem ctrl_tornDown_ne (s : State) {l m : CtrlIx} (h : m ≠ l) : (s.tornDown l).ctrl m = s.ctrl m := by
  rw [State.tornDown, ctrl_onCtrl_ne _ _ h.symm, ctrl_tearDownList_ne _ _ h, State.leftUp, ctrl_onCtrl_ne _ _ h.symm,
    ctrl_withWaiting]

theorem blocks_tornDown (s : State) (l : CtrlIx) : (s.tornDown l).blocks = s.blocks :=
  (blocks_of_stores_eq (stores_onCtrl ..)).trans ((blocks_tearDownList ..).trans (blocks_of_stores_eq rfl))

theorem setting_tornDown (s : State) (l : CtrlIx) : (s.tornDown l).setting = s.setting :=
  setting_tearDownList (s.leftUp l) l _

theorem sheds_tornDown {s : State} (ha : s.admissionOk) (l : CtrlIx) (n : SlotIx) :
    (s.slot n).Sheds (s.owns l) ((s.tornDown l).slot n) (s.orphansMade n fun x => x.id.link == l)
      (s.cancelsMade n fun x => x.id.link == l) := by
  rw [orphansMade_eq, cancelsMade_eq]
  exact sheds_tearDownList (s := s.leftUp l) ha.1 (fun i _ x hx hl =>
    (owns_of_exchange (s := s) hx).trans (beq_iff_eq.mpr hl)) n

theorem closed_tornDown {s : State} (ha : s.admissionOk) {l : CtrlIx} {i : XtIx} {x : Exchange}
    (hx : s.exchange i = some x) (hl : x.id.link = l) :
    ((s.tornDown l).slot x.id.slot).Closed i (s.relayTag i) :=
  closed_tearDownList (s := s.leftUp l) hx hl ha.1 (mem_admissionOrder_of_exchange ha hx)

theorem gone_tornDown {s : State} (ha : s.admissionOk) (l : CtrlIx) : (s.tornDown l).Gone l (s.owns l) := by
  intro i y hy
  by_cases hown : ∃ x, s.exchange i = some x ∧ x.id.link = l
  · obtain ⟨x, hx, hl⟩ := hown
    rw [State.exchange, entry_tornDown_of_own ha hx hl] at hy
    cases hy
  · have hnot : ∀ x, s.exchange i = some x → x.id.link ≠ l := fun x hx hl => hown ⟨x, hx, hl⟩
    have hsame := entry_tornDown_of_not_own hnot
    rw [State.exchange, hsame] at hy
    rw [State.relayTag, hsame]
    exact ⟨hnot y hy, (owns_of_exchange (s := s) hy).trans (beq_eq_false_iff_ne.mpr (hnot y hy))⟩

/-! ## Notices -/

/-- Notices are added to a link's queue one after another. -/
def CtrlBlock.addNotices (b : CtrlBlock) (ms : List Notice) : CtrlBlock := ms.foldl CtrlBlock.addNotice b

theorem exists_addNotices (b : CtrlBlock) (ms : List Notice) :
    ∃ q f, b.addNotices ms = { b with noticeQ := q, lost := f } := by
  induction ms generalizing b with
  | nil => exact ⟨_, _, rfl⟩
  | cons m ms ih =>
    have hone : ∃ q f, b.addNotice m = { b with noticeQ := q, lost := f } := by
      unfold CtrlBlock.addNotice
      split <;> exact ⟨_, _, rfl⟩
    obtain ⟨q, f, hm⟩ := hone
    obtain ⟨q', f', hms⟩ := ih (b.addNotice m)
    exact ⟨q', f', hms.trans (by rw [hm])⟩

theorem station_addNotices (b : CtrlBlock) (ms : List Notice) : (b.addNotices ms).station = b.station := by
  obtain ⟨q, f, h⟩ := exists_addNotices b ms
  rw [h]
  rfl

/-- Notices that find places are all queued. -/
theorem addNotices_of_room {b : CtrlBlock} {ms : List Notice} (h : b.noticeQ.length + ms.length ≤ 16) :
    b.addNotices ms = { b with noticeQ := b.noticeQ ++ ms } := by
  induction ms generalizing b with
  | nil => simp [CtrlBlock.addNotices]
  | cons m ms ih =>
    rw [List.length_cons] at h
    have hone : b.addNotice m = { b with noticeQ := b.noticeQ ++ [m] } := if_pos (show _ < 16 by omega)
    have hrest : (b.addNotice m).noticeQ.length + ms.length ≤ 16 := by
      simp only [hone, List.length_append, List.length_singleton]
      omega
    refine (ih hrest).trans ?_
    simp [hone]

/-- A notice is in a link's queue, or the queue is full and its lost flag set (R162). -/
def CtrlBlock.Told (b : CtrlBlock) (m : Notice) : Prop := m ∈ b.noticeQ ∨ b.lost = true ∧ 16 ≤ b.noticeQ.length

theorem told_addNotice_self (b : CtrlBlock) (m : Notice) : (b.addNotice m).Told m := by
  unfold CtrlBlock.addNotice
  split
  · exact .inl (by simp)
  next h => exact .inr ⟨rfl, Nat.not_lt.mp h⟩

theorem told_addNotice {b : CtrlBlock} {m : Notice} (h : b.Told m) (m' : Notice) : (b.addNotice m').Told m := by
  unfold CtrlBlock.addNotice
  split
  next hroom =>
    refine .inl (List.mem_append_left _ (h.resolve_right fun hlost => ?_))
    exact absurd hroom (Nat.not_lt.mpr hlost.2)
  · exact h.imp_right fun hlost => ⟨rfl, hlost.2⟩

theorem told_addNotices_of_told {b : CtrlBlock} {m : Notice} (h : b.Told m) (ms : List Notice) :
    (b.addNotices ms).Told m := by
  induction ms generalizing b with
  | nil => exact h
  | cons m' ms ih => exact ih (told_addNotice h m')

theorem told_addNotices {ms : List Notice} {m : Notice} (hm : m ∈ ms) (b : CtrlBlock) : (b.addNotices ms).Told m := by
  induction ms generalizing b with
  | nil => cases hm
  | cons m' ms ih =>
    rcases List.mem_cons.mp hm with rfl | hm
    · exact told_addNotices_of_told (told_addNotice_self b m) ms
    · exact ih hm _

theorem ctrl_notifyManager (s : State) (k : NoticeKind) (a : Byte) (c : NoticeCause) (d : List Byte) (m : CtrlIx) :
    (s.notifyManager k a c d).ctrl m
      = if s.manager = some m then (s.ctrl m).addNotice ⟨s.noticeId, k, a, c, d⟩ else s.ctrl m := by
  unfold State.notifyManager
  split
  next j hj =>
    have hctrl : (s.notify j k a c d).ctrl m
        = if j = m then (s.ctrl j).addNotice ⟨s.noticeId, k, a, c, d⟩ else s.ctrl m :=
      ctrl_onCtrl s j m (·.addNotice ⟨s.noticeId, k, a, c, d⟩)
    rw [hctrl, hj]
    by_cases h : j = m
    · subst h
      simp
    · simp [h]
  next hnone => simp [hnone]; rfl

/-! ## Telling the manager (R166) -/

/-- The notices of a departure, from the id on that LINK_DOWN takes. -/
def departureNotices (id : Byte) (l : CtrlIx) (cause : DepartCause) : List Notice :=
  ⟨id, .linkDown, ctrlByte l, cause.notice, []⟩
    :: if cause.returns then [⟨id + 1, .linkUp, ctrlByte l, .none, []⟩] else []

theorem addNotice_onLink (b : CtrlBlock) (f : LinkBlock → LinkBlock) (m : Notice) :
    (b.onLink f).addNotice m = (b.addNotice m).onLink f := by
  unfold CtrlBlock.addNotice CtrlBlock.onLink
  split <;> rfl

theorem isManager_of_manager {s : State} {l : CtrlIx} (h : s.manager = some l) : s.isManager l = true :=
  List.find?_some h

theorem manager_of_setting_eq {s t : State} (h : t.setting = s.setting) : t.manager = s.manager := by
  simp only [State.manager, State.ctrlConfig, active_of_setting_eq h]

section Tell

variable (s : State) (l : CtrlIx) (cause : DepartCause)

theorem setting_tellDown : (s.tellDown l cause).setting = s.setting :=
  setting_notifyManager s .linkDown (ctrlByte l) cause.notice []

theorem noticeId_tellDown : (s.tellDown l cause).noticeId = s.noticeId + 1 :=
  noticeId_notifyManager s .linkDown (ctrlByte l) cause.notice []

theorem ctrl_tellDown (m : CtrlIx) : (s.tellDown l cause).ctrl m =
    let b := if s.manager = some m then (s.ctrl m).addNotice ⟨s.noticeId, .linkDown, ctrlByte l, cause.notice, []⟩
      else s.ctrl m
    if l = m then b.onLink (·.depart Config.ctrlBufferPlaces s.now cause) else b := by
  have hnow : (s.notifyManager .linkDown (ctrlByte l) cause.notice []).now = s.now :=
    now_of_setting_eq (setting_notifyManager ..)
  unfold State.tellDown
  dsimp only
  rw [ctrl_onCtrl, hnow, ctrl_notifyManager, ctrl_notifyManager]
  by_cases h : l = m
  · subst h
    rfl
  · rw [if_neg h, if_neg h]

/-- The manager gets the notices of the departure, and the departed link is where its departure leads. -/
theorem ctrl_tellDeparture (m : CtrlIx) : (s.tellDeparture l cause).ctrl m =
    let b := if s.manager = some m then (s.ctrl m).addNotices (departureNotices s.noticeId l cause) else s.ctrl m
    if l = m then b.onLink (·.depart Config.ctrlBufferPlaces s.now cause) else b := by
  have hmanager : (s.tellDown l cause).manager = s.manager := manager_of_setting_eq (setting_tellDown s l cause)
  unfold State.tellDeparture departureNotices
  cases cause.returns with
  | false => exact ctrl_tellDown s l cause m
  | true =>
    have hup := ctrl_notifyManager (s.tellDown l cause) .linkUp (ctrlByte l) .none [] m
    rw [hmanager, ctrl_tellDown, noticeId_tellDown] at hup
    refine hup.trans ?_
    by_cases hm : s.manager = some m
    · by_cases hl : l = m
      · simp [hm, hl, CtrlBlock.addNotices, addNotice_onLink]
      · simp [hm, hl, CtrlBlock.addNotices]
    · simp [hm]

theorem entry_tellDeparture (i : XtIx) : (s.tellDeparture l cause).entry i = s.entry i := by
  unfold State.tellDeparture State.tellDown
  dsimp only
  split <;> simp

theorem slot_tellDeparture (n : SlotIx) : (s.tellDeparture l cause).slot n = s.slot n := by
  unfold State.tellDeparture State.tellDown
  dsimp only
  split <;> simp

theorem blocks_tellDeparture : (s.tellDeparture l cause).blocks = s.blocks := by
  refine blocks_of_stores_eq ?_
  unfold State.tellDeparture State.tellDown
  dsimp only
  split <;> simp

theorem setting_tellDeparture : (s.tellDeparture l cause).setting = s.setting := by
  unfold State.tellDeparture
  dsimp only
  split
  · exact (setting_notifyManager ..).trans (setting_tellDown s l cause)
  · exact setting_tellDown s l cause

theorem noticeId_tellDeparture :
    (s.tellDeparture l cause).noticeId = s.noticeId + if cause.returns then 2 else 1 := by
  unfold State.tellDeparture
  dsimp only
  split
  · rw [noticeId_notifyManager, noticeId_tellDown, BitVec.add_assoc]
    rfl
  · exact noticeId_tellDown s l cause

end Tell

/-! ## The departed link -/

/-- Reading the line afresh touches only the line-loss timer (R168). -/
theorem exists_lineTimer_readLine (now : Nat) (b : LinkBlock) :
    ∃ timer, b.readLine now = { b with lineTimer := timer } := by
  unfold LinkBlock.readLine
  split <;> exact ⟨_, rfl⟩

/-- A link that has left UP departs as it would have from UP. -/
theorem depart_leaveUp (places now : Nat) (cause : DepartCause) (b : LinkBlock) :
    b.leaveUp.depart places now cause = b.depart places now cause := by
  cases cause <;> rfl

/-- Every departure leaves the link without frames and without owed credits (R168). -/
theorem depart_empties (places now : Nat) (cause : DepartCause) (b : LinkBlock) :
    (b.depart places now cause).buffer = [] ∧ (b.depart places now cause).owed = 0
      ∧ (b.depart places now cause).sending = none := by
  cases cause with
  | lineLost =>
    unfold LinkBlock.depart
    dsimp only
    split <;> exact ⟨rfl, rfl, rfl⟩
  | creditViolation | creditStall =>
    obtain ⟨timer, h⟩ := exists_lineTimer_readLine now (b.leaveUp.toWaitHello places)
    rw [LinkBlock.depart, h]
    exact ⟨rfl, rfl, rfl⟩
  | partnerRestart size =>
    obtain ⟨timer, h⟩ := exists_lineTimer_readLine now ((b.leaveUp.sendHello places).toUp size)
    rw [LinkBlock.depart, h]
    exact ⟨rfl, rfl, rfl⟩

/-- Where a departure leads (R168). -/
theorem depart_leads (places now : Nat) (cause : DepartCause) (b : LinkBlock) :
    match cause with
    | .lineLost => (b.depart places now cause).held = 0
        ∧ (b.depart places now cause).state = if b.locked then .waitHello else .down
    | .creditViolation | .creditStall => (b.depart places now cause).held = 0
        ∧ (b.depart places now cause).state = .waitHello
    | .partnerRestart size => (b.depart places now cause).held = size ∧ (b.depart places now cause).state = .up := by
  cases cause with
  | lineLost =>
    cases hlocked : b.locked <;>
      simp [LinkBlock.depart, LinkBlock.leaveUp, LinkBlock.toWaitHello, LinkBlock.sendHello, hlocked]
  | creditViolation | creditStall =>
    obtain ⟨timer, h⟩ := exists_lineTimer_readLine now (b.leaveUp.toWaitHello places)
    rw [LinkBlock.depart, h]
    exact ⟨rfl, rfl⟩
  | partnerRestart size =>
    obtain ⟨timer, h⟩ := exists_lineTimer_readLine now ((b.leaveUp.sendHello places).toUp size)
    rw [LinkBlock.depart, h]
    exact ⟨rfl, rfl⟩

theorem noticeId_departCtrl (s : State) (l : CtrlIx) (cause : DepartCause) :
    ((s.tornDown l).dropLink l).noticeId
      = (s.departCtrl l cause).noticeId - if cause.returns then 2 else 1 := by
  rw [departCtrl_eq, noticeId_tellDeparture, BitVec.add_sub_cancel]

theorem lacks_departCtrl (s : State) (l : CtrlIx) (cause : DepartCause) (n : SlotIx) :
    ((s.departCtrl l cause).slot n).resv.Lacks l := by
  rw [departCtrl_eq, slot_tellDeparture]
  exact lacks_dropLink _ l n

section Departed

variable {s : State} (ha : s.admissionOk) (l : CtrlIx) (cause : DepartCause)

include ha

theorem spares_dropLink_tornDown : (s.tornDown l).Spares l (s.owns l) ((s.tornDown l).dropLink l) :=
  spares_dropLink (gone_tornDown ha l)

theorem identity_departCtrl : (s.departCtrl l cause).identity = (s.tornDown l).identity := by
  rw [departCtrl_eq, ← (spares_dropLink_tornDown ha l).identity]
  exact funext fun i => identity_of_entry_eq (entry_tellDeparture _ l cause i)

theorem setting_departCtrl : (s.departCtrl l cause).setting = s.setting := by
  rw [departCtrl_eq, setting_tellDeparture, (spares_dropLink_tornDown ha l).setting, setting_tornDown]

theorem blocks_departCtrl : (s.departCtrl l cause).blocks = s.blocks := by
  rw [departCtrl_eq, blocks_tellDeparture, (spares_dropLink_tornDown ha l).blocks, blocks_tornDown]

theorem sheds_departCtrl (n : SlotIx) :
    (s.slot n).Sheds (s.owns l) ((s.departCtrl l cause).slot n) (s.orphansMade n fun x => x.id.link == l)
      (s.cancelsMade n fun x => x.id.link == l) := by
  have hsheds := sheds_trans (sheds_tornDown ha l n) ((spares_dropLink_tornDown ha l).slots n)
  rw [List.append_nil, List.append_nil] at hsheds
  rwa [departCtrl_eq, slot_tellDeparture]

theorem closed_departCtrl {i : XtIx} {x : Exchange} (hx : s.exchange i = some x) (hl : x.id.link = l) :
    ((s.departCtrl l cause).slot x.id.slot).Closed i (s.relayTag i) := by
  rw [departCtrl_eq, slot_tellDeparture]
  exact closed_of_sheds ((spares_dropLink_tornDown ha l).slots _) (closed_tornDown ha hx hl)

theorem exchange_departCtrl_of_own {i : XtIx} {x : Exchange} (hx : s.exchange i = some x) (hl : x.id.link = l) :
    (s.departCtrl l cause).exchange i = none ∧ ((s.departCtrl l cause).entry i).gen = (s.entry i).gen + 1 := by
  have htorn := entry_tornDown_of_own ha hx hl
  have hentry := entry_of_identity_eq (congrFun (identity_departCtrl ha l cause) i) (by rw [State.exchange, htorn])
  rw [State.exchange, hentry, htorn]
  exact ⟨rfl, rfl⟩

theorem identity_departCtrl_of_not_own {i : XtIx} (h : ∀ x, s.exchange i = some x → x.id.link ≠ l) :
    (s.departCtrl l cause).identity i = s.identity i :=
  (congrFun (identity_departCtrl ha l cause) i).trans (identity_of_entry_eq (entry_tornDown_of_not_own h))

theorem link_ne_of_exchange_departCtrl {i : XtIx} {y : Exchange} (hy : (s.departCtrl l cause).exchange i = some y) :
    y.id.link ≠ l := by
  obtain ⟨x, hx, hid, -⟩ :=
    exists_exchange_of_identity_eq (congrFun (identity_departCtrl ha l cause) i).symm hy
  exact hid ▸ (gone_tornDown ha l i x hx).1

theorem manager_dropLink_tornDown : ((s.tornDown l).dropLink l).manager = s.manager :=
  manager_of_setting_eq ((spares_dropLink_tornDown ha l).setting.trans (setting_tornDown s l))

/-- The departed link: its queues are empty but for the notices of its own departure, which it gets as the manager. -/
theorem ctrl_departCtrl_self : (s.departCtrl l cause).ctrl l =
    { link := (s.ctrl l).link.depart Config.ctrlBufferPlaces s.now cause
      replyQ := []
      noticeQ := if s.manager = some l then departureNotices ((s.tornDown l).dropLink l).noticeId l cause else []
      lost := (s.ctrl l).lost || !(s.ctrl l).noticeQ.isEmpty
      releaseQ := []
      orderList := []
      offered := none } := by
  have hspares := spares_dropLink_tornDown ha l
  have hnow := now_of_setting_eq (hspares.setting.trans (setting_tornDown s l))
  have hroom : ∀ b : CtrlBlock, b.noticeQ = [] → ∀ id,
      b.addNotices (departureNotices id l cause) = { b with noticeQ := departureNotices id l cause } := by
    intro b hb id
    have hlen : (departureNotices id l cause).length ≤ 2 := by
      unfold departureNotices
      cases cause.returns <;> simp
    rw [addNotices_of_room (by rw [hb, List.length_nil]; omega), hb, List.nil_append]
  rw [departCtrl_eq, ctrl_tellDeparture, manager_dropLink_tornDown ha l, hspares.own, ctrl_tornDown_self, hnow,
    hroom _ rfl, if_pos rfl]
  split <;> simp only [CtrlBlock.onLink, CtrlBlock.emptyQueues, depart_leaveUp]

theorem ctrl_departCtrl_ne {m : CtrlIx} (hm : l ≠ m) : (s.departCtrl l cause).ctrl m
    = if s.manager = some m then (((s.tornDown l).dropLink l).ctrl m).addNotices
        (departureNotices ((s.tornDown l).dropLink l).noticeId l cause)
      else ((s.tornDown l).dropLink l).ctrl m := by
  rw [departCtrl_eq, ctrl_tellDeparture, manager_dropLink_tornDown ha l, if_neg hm]

/-- Of another link only notices and order lists change. -/
theorem station_departCtrl_ne {m : CtrlIx} (hm : l ≠ m) :
    ((s.departCtrl l cause).ctrl m).station = (s.ctrl m).station := by
  have hdropped := (spares_dropLink_tornDown ha l).station m
  rw [ctrl_tornDown_ne s hm.symm] at hdropped
  rw [ctrl_departCtrl_ne ha l cause hm, ← hdropped]
  split
  · exact station_addNotices _ _
  · rfl

/-- The manager has the notices of the departure, or its queue is full and its lost flag set. -/
theorem told_departCtrl {m : CtrlIx} (hm : s.manager = some m) {n : Notice}
    (hn : n ∈ departureNotices ((s.tornDown l).dropLink l).noticeId l cause) :
    ((s.departCtrl l cause).ctrl m).Told n := by
  by_cases h : l = m
  · subst h
    rw [ctrl_departCtrl_self ha, if_pos hm]
    exact .inl hn
  · rw [ctrl_departCtrl_ne ha l cause h, if_pos hm]
    exact told_addNotices hn _

end Departed

theorem cancelsMade_sublist {mine : RelayTag → Bool} {b b' : SlotBlock} {os : List Orphan} {cs : List SlotFrame}
    (h : b.Sheds mine b' os cs) : cs.Sublist b'.sendQ :=
  (h.cancels ▸ List.sublist_append_right _ cs).trans List.filter_sublist

theorem cancel_mem_of_sheds {mine : RelayTag → Bool} {b b' : SlotBlock} {os : List Orphan} {cs : List SlotFrame}
    {t : RelayTag} (h : b.Sheds mine b' os cs) (ht : mine t = true) (hc : .cancel t ∈ b.sendQ) :
    .cancel t ∈ b'.sendQ := by
  have hmem : SlotFrame.cancel t ∈ b.sendQ.filter (SlotFrame.isCancelOf mine) := List.mem_filter.mpr ⟨hc, ht⟩
  exact List.mem_of_mem_filter (h.cancels ▸ List.mem_append_left cs hmem)

/-- Settles O10: the parts of the state that the teardown, the leaving of the reservation records and the notices of
the departure leave, one by one. -/
theorem departedControllerLinkLeavesNothing : Obligations.DepartedControllerLinkLeavesNothing := by
  intro l cause s ha t own note word back
  have hself := ctrl_departCtrl_self ha l cause
  have hlink : (t.ctrl l).link = (s.ctrl l).link.depart Config.ctrlBufferPlaces s.now cause := by rw [hself]
  obtain ⟨hbuffer, howed, hsending⟩ := depart_empties Config.ctrlBufferPlaces s.now cause (s.ctrl l).link
  have hsetting := setting_departCtrl ha l cause
  simp only [State.setting, Prod.mk.injEq] at hsetting
  obtain ⟨hnow, hpending, htables⟩ := hsetting
  refine ⟨fun i x hx => link_ne_of_exchange_departCtrl ha l cause hx,
    fun i x hx hl => exchange_departCtrl_of_own ha l cause hx hl, fun i x hx hl => ?others, fun i hx => ?free,
    by rw [hself], by rw [hself], by rw [hself], by rw [hself], hlink ▸ hbuffer, hlink ▸ howed, hlink ▸ hsending,
    fun hm => ?noNotice, by rw [hself], ?leads, fun n => (lacks_departCtrl s l cause n).1,
    fun n => (lacks_departCtrl s l cause n).2, fun m hm => ?told, fun n => ?slots, fun i x hx hl => ?closed,
    sameTotals_of_blocks_eq (blocks_departCtrl ha l cause), fun l' hl' => ?stations, htables, hnow, hpending⟩
  case others =>
    refine exists_exchange_of_identity_eq (identity_departCtrl_of_not_own ha l cause fun y hy => ?_) hx
    exact Option.some.inj (hx.symm.trans hy) ▸ hl
  case free => exact entry_of_identity_eq (identity_departCtrl_of_not_own ha l cause (by simp [hx])) hx
  case noNotice =>
    have hnot : s.manager ≠ some l := fun h => absurd (isManager_of_manager h) (by simp [hm])
    rw [hself, if_neg hnot]
  case leads =>
    rw [hlink]
    exact depart_leads Config.ctrlBufferPlaces s.now cause (s.ctrl l).link
  case told =>
    intro id lostAt
    have hback : back = cause.returns := by cases cause <;> rfl
    have hid : ((s.tornDown l).dropLink l).noticeId = id := by rw [noticeId_departCtrl s l cause, ← hback]
    have hnotes : departureNotices id l cause
        = note id .linkDown word :: if back then [note (id + 1) .linkUp .none] else [] := by cases cause <;> rfl
    have htold : ∀ n ∈ departureNotices id l cause, (t.ctrl m).Told n := fun n hn =>
      told_departCtrl ha l cause hm (hid ▸ hn)
    rw [hnotes] at htold
    refine ⟨fun hml => ?_, htold _ List.mem_cons_self, fun hb => htold _ (by simp [hb])⟩
    rw [hself, if_pos (hml ▸ hm), hid, hnotes]
  case slots =>
    have h := sheds_departCtrl ha l cause n
    exact ⟨h.orphans, cancelsMade_sublist h, h.state, h.lastFault, h.link⟩
  case closed =>
    have hmine : s.owns l (s.relayTag i) = true := (owns_of_exchange hx).trans (beq_iff_eq.mpr hl)
    have hsheds := sheds_departCtrl ha l cause x.id.slot
    obtain ⟨hqueue, hsend⟩ := closed_departCtrl ha l cause hx hl
    exact ⟨hqueue, cancel_mem_of_sheds hsheds hmine, fun hs => hsend (hsheds.link.symm ▸ hs)⟩
  case stations =>
    have hstation := station_departCtrl_ne ha l cause hl'.symm
    simpa only [CtrlBlock.station, Prod.mk.injEq] using hstation

end Sys2Proof.Machine
end

section
/-! PROOFS. The RESV requests TAKE, RENEW and DROP (Section 7, R111 to R115): when each is taken, and what it does by
the requester's place in the record; and the expiry of a lease (R116). -/

namespace Sys2Proof.Machine

open Sys2Proof

/-! ## The requests (R111) -/

theorem exec_take (l : CtrlIx) (s : State) : exec (.take l) s = execTake l s := rfl
theorem exec_renew (l : CtrlIx) (s : State) : exec (.renew l) s = execRenew l s := rfl
theorem exec_drop (l : CtrlIx) (s : State) : exec (.drop l) s = execDrop l s := rfl

theorem resvRequest_of_takes {s : State} {l : CtrlIx} {tag a : Byte} {kind : ResvKind}
    (h : s.takes l (.resv tag kind a)) (effect : Byte → State → SlotIx → State) :
    s.resvRequest l kind effect = .next ((s.tookFrame l).takeResv l tag a (effect tag)).settle := by
  simp only [State.resvRequest, nextFrame_of_takes h, if_pos, State.complete]

theorem takeResv_of_no_slot {s : State} {l : CtrlIx} {tag a : Byte} (ha : slotOfByte a = none)
    (effect : State → SlotIx → State) : s.takeResv l tag a effect = s.answerResv l tag .noSlot [] := by
  simp only [State.takeResv, ha]

theorem takeResv_of_slot {s : State} {l : CtrlIx} {tag a : Byte} {n : SlotIx} (ha : slotOfByte a = some n)
    (effect : State → SlotIx → State) : s.takeResv l tag a effect = effect s n := by
  simp only [State.takeResv, ha]

/-- A RESV for no slot is answered NO_SLOT, whatever its kind. -/
theorem resvRequest_of_no_slot {s : State} {l : CtrlIx} {tag a : Byte} {kind : ResvKind}
    (h : s.takes l (.resv tag kind a)) (ha : slotOfByte a = none) (effect : Byte → State → SlotIx → State) :
    s.resvRequest l kind effect = .next ((s.tookFrame l).answerResv l tag .noSlot []).settle := by
  rw [resvRequest_of_takes h, takeResv_of_no_slot ha]

section Slot

variable {s : State} {l : CtrlIx} {tag a : Byte} {n : SlotIx} (ha : slotOfByte a = some n)

include ha

theorem execTake_of_takes (h : s.takes l (.resv tag .take a)) :
    execTake l s = .next ((s.tookFrame l).takeTake l tag n).settle := by
  rw [execTake, resvRequest_of_takes h, takeResv_of_slot ha]

theorem execRenew_of_takes (h : s.takes l (.resv tag .renew a)) :
    execRenew l s = .next ((s.tookFrame l).takeRenew l tag n).settle := by
  rw [execRenew, resvRequest_of_takes h, takeResv_of_slot ha]

theorem execDrop_of_takes (h : s.takes l (.resv tag .drop a)) :
    execDrop l s = .next ((s.tookFrame l).takeDrop l tag n).settle := by
  rw [execDrop, resvRequest_of_takes h, takeResv_of_slot ha]

end Slot

/-! ## Leases (R115) -/

/-- The instant at which a lease that starts now expires, in cycles. -/
theorem leaseExpiryFrom_eq (s : State) (n : SlotIx) : s.leaseExpiryFrom n
    = if (s.slotConfig n).lease = 0 then none else some (s.now + (s.slotConfig n).lease * 500000) := by
  simp only [State.leaseExpiryFrom, Config.cyclesPerMs, Nat.mul_assoc]

/-- A new holder has its lease started in the same change of the record. -/
theorem makeHolder_eq (s : State) (n : SlotIx) (l : CtrlIx) :
    s.makeHolder n l = s.onResv n fun r => { r with holder := some l, lease := s.leaseExpiryFrom n } := by
  simp only [State.makeHolder, State.startLease, State.onResv, onSlot_onSlot]
  rfl

/-! ## TAKE (R112, Table 7.2) -/

section Take

variable {s : State} {l : CtrlIx} {n : SlotIx} (tag : Byte)

theorem takeTake_without_access (h : s.access l n ≠ .full) :
    s.takeTake l tag n = s.answerResv l tag .noAccess [] := by
  simp only [State.takeTake, if_pos h]

variable (hfull : s.access l n = .full)

include hfull

theorem takeTake_of_free (hh : (s.slot n).resv.holder = none) :
    s.takeTake l tag n = ((s.makeHolder n l).answerResv l tag .granted []).preempt n l := by
  simp only [State.takeTake, hfull, ne_eq, not_true_eq_false, if_false, hh]

theorem takeTake_of_holder (hh : (s.slot n).resv.holder = some l) :
    s.takeTake l tag n = (s.startLease n).answerResv l tag .granted [] := by
  simp only [State.takeTake, hfull, ne_eq, not_true_eq_false, if_false, hh, if_true]

section Held

variable {h : CtrlIx} (hh : (s.slot n).resv.holder = some h) (hne : h ≠ l)

include hh hne

theorem takeTake_of_waiter (hw : l ∈ (s.slot n).resv.waiting) : s.takeTake l tag n
    = s.answerResv l tag .queued [byteOf (waiterPosition (s.slot n).resv.waiting l)] := by
  simp only [State.takeTake, hfull, ne_eq, not_true_eq_false, if_false, hh, if_neg hne, if_pos hw]

theorem takeTake_of_stranger (hw : l ∉ (s.slot n).resv.waiting) : s.takeTake l tag n
    = (s.onResv n fun r => { r with waiting := r.waiting ++ [l] }).answerResv l tag .queued
      [byteOf ((s.slot n).resv.waiting.length + 1)] := by
  simp only [State.takeTake, hfull, ne_eq, not_true_eq_false, if_false, hh, if_neg hne, if_neg hw]

end Held

end Take

/-- Settles O23: no slot, no access, or the row of Table 7.2 for the requester's place in the record. -/
theorem takeAnswersByTheRecord : Obligations.TakeAnswersByTheRecord := by
  intro l tag a s u answered
  refine ⟨fun ha => ⟨fun h => resvRequest_of_no_slot h ha _, fun h => resvRequest_of_no_slot h ha _,
    fun h => resvRequest_of_no_slot h ha _⟩, ?_⟩
  intro n ha h R lease
  have hlease : u.leaseExpiryFrom n = lease := leaseExpiryFrom_eq s n
  rw [exec_take, execTake_of_takes ha h]
  refine ⟨fun hacc => ?_, fun hfull => ⟨fun hfree => ?_, fun hholds => ?_, fun h hh hne =>
    ⟨fun hw => ?_, fun hw => ?_⟩⟩⟩
  · rw [takeTake_without_access (s := s.tookFrame l) tag hacc]
    rfl
  · rw [takeTake_of_free (s := s.tookFrame l) tag hfull hfree, makeHolder_eq, hlease]
    rfl
  · rw [takeTake_of_holder (s := s.tookFrame l) tag hfull hholds, State.startLease, hlease]
    rfl
  · rw [takeTake_of_waiter (s := s.tookFrame l) tag hfull hh hne hw]
    rfl
  · rw [takeTake_of_stranger (s := s.tookFrame l) tag hfull hh hne hw]
    rfl

/-! ## RENEW (R113) -/

theorem takeRenew_of_holder {s : State} {l : CtrlIx} {n : SlotIx} (tag : Byte)
    (h : (s.slot n).resv.holder = some l) :
    s.takeRenew l tag n = (s.startLease n).answerResv l tag .renewed [] := if_pos h

theorem takeRenew_of_not_holder {s : State} {l : CtrlIx} {n : SlotIx} (tag : Byte)
    (h : (s.slot n).resv.holder ≠ some l) : s.takeRenew l tag n = s.answerResv l tag .notHolder [] := if_neg h

/-- Settles O24: the lease restarts for the holder only. -/
theorem renewRestartsTheLease : Obligations.RenewRestartsTheLease := by
  intro l tag a n s h ha answered
  rw [exec_renew, execRenew_of_takes ha h]
  refine ⟨fun hholds => ?_, fun hnot => ?_⟩
  · have hlease := leaseExpiryFrom_eq (s.tookFrame l) n
    rw [takeRenew_of_holder (s := s.tookFrame l) tag hholds, State.startLease, hlease]
    rfl
  · rw [takeRenew_of_not_holder (s := s.tookFrame l) tag hnot]
    rfl

/-! ## DROP (R114) -/

theorem takeDrop_of_holder {s : State} {l : CtrlIx} {n : SlotIx} (tag : Byte)
    (h : (s.slot n).resv.holder = some l) :
    s.takeDrop l tag n = (s.answerResv l tag .dropped []).handOver n := if_pos h

theorem takeDrop_of_waiter {s : State} {l : CtrlIx} {n : SlotIx} (tag : Byte)
    (h : (s.slot n).resv.holder ≠ some l) (hw : l ∈ (s.slot n).resv.waiting) : s.takeDrop l tag n
      = (s.onResv n fun r => { r with waiting := r.waiting.filter (· != l) }).answerResv l tag .dropped [] := by
  simp only [State.takeDrop, if_neg h, if_pos hw]

theorem takeDrop_of_stranger {s : State} {l : CtrlIx} {n : SlotIx} (tag : Byte)
    (h : (s.slot n).resv.holder ≠ some l) (hw : l ∉ (s.slot n).resv.waiting) :
    s.takeDrop l tag n = s.answerResv l tag .notHolder [] := by
  simp only [State.takeDrop, if_neg h, if_neg hw]

/-- Settles O25, by the three places a requester can have. -/
theorem dropAnswersByTheRecord : Obligations.DropAnswersByTheRecord := by
  intro l tag a n s h ha u R answered
  rw [exec_drop, execDrop_of_takes ha h]
  refine ⟨fun hholds => ?_, fun hnot hw => ?_, fun hnot hw => ?_⟩
  · rw [takeDrop_of_holder (s := s.tookFrame l) tag hholds]
    rfl
  · rw [takeDrop_of_waiter (s := s.tookFrame l) tag hnot hw]
    rfl
  · rw [takeDrop_of_stranger (s := s.tookFrame l) tag hnot hw]
    rfl

/-! ## The expiry of a lease (R116) -/

theorem exec_leaseExpiry (n : SlotIx) (s : State) : exec (.leaseExpiry n) s = execLeaseExpiry n s := rfl

theorem revokeLease_of_holder {s : State} {n : SlotIx} {l : CtrlIx} (h : (s.slot n).resv.holder = some l) :
    s.revokeLease n = (s.notify l .resvRevoked (slotByte n) .lease []).handOver n := by
  simp only [State.revokeLease, h]

theorem execLeaseExpiry_of_running {s : State} {n : SlotIx} {e : Nat} (h : (s.slot n).resv.lease = some e)
    (he : s.canExpire e) : execLeaseExpiry n s = .next ((s.atTime (max s.now e)).revokeLease n).settle := by
  simp only [execLeaseExpiry, h]
  exact atExpiry_of_canExpire he _

theorem execLeaseExpiry_of_no_lease {s : State} {n : SlotIx} (h : (s.slot n).resv.lease = none) :
    execLeaseExpiry n s = .next s := by
  simp only [execLeaseExpiry, h, State.stay]

/-- Settles O51: the lease runs, and its expiry revokes the holder; or it does not run. -/
theorem leaseExpiryRevokesTheHolder : Obligations.LeaseExpiryRevokesTheHolder := by
  intro n s
  refine ⟨fun e l hlease hholds he => ?_, execLeaseExpiry_of_no_lease⟩
  rw [exec_leaseExpiry, execLeaseExpiry_of_running hlease he,
    revokeLease_of_holder (s := s.atTime (max s.now e)) hholds]

end Sys2Proof.Machine
end

section
/-! PROOFS. Notices (Section 10, R160 to R162), the hand-over of a slot and the clearing of its record (Section 7, R118,
R122, R123): who is told what under which id, and what the record is then. -/

namespace Sys2Proof.Machine

open Sys2Proof

/-! ## One notice -/

theorem ctrl_notify (s : State) (l m : CtrlIx) (k : NoticeKind) (a : Byte) (c : NoticeCause) (d : List Byte) :
    (s.notify l k a c d).ctrl m
      = if l = m then (s.ctrl l).addNotice ⟨s.noticeId, k, a, c, d⟩ else s.ctrl m :=
  ctrl_onCtrl s l m (·.addNotice ⟨s.noticeId, k, a, c, d⟩)

@[simp] theorem ctrl_notify_ne (s : State) {l m : CtrlIx} (k : NoticeKind) (a : Byte) (c : NoticeCause)
    (d : List Byte) (h : l ≠ m) : (s.notify l k a c d).ctrl m = s.ctrl m := by
  rw [ctrl_notify, if_neg h]

theorem addNotice_of_room {b : CtrlBlock} (m : Notice) (h : b.noticeQ.length < 16) :
    b.addNotice m = { b with noticeQ := b.noticeQ ++ [m] } := if_pos h

theorem addNotice_of_full {b : CtrlBlock} (m : Notice) (h : 16 ≤ b.noticeQ.length) :
    b.addNotice m = { b with lost := true } := if_neg (Nat.not_lt.mpr h)

/-- The ids of notices in a row (R161). -/
theorem noticeId_succ_add (id : Byte) (k : Nat) : id + 1 + BitVec.ofNat 8 k = id + BitVec.ofNat 8 (k + 1) := by
  rw [BitVec.add_assoc, Nat.add_comm, BitVec.ofNat_add]
  rfl

/-! ## Notices to the waiters of a slot -/

/-- Each waiter of a list is told, from the front, that its wait at slot n has ended. -/
def State.tellWaiters (s : State) (n : SlotIx) (cause : NoticeCause) (ws : List CtrlIx) : State :=
  ws.foldl (fun s l => s.notify l .waitEnded (slotByte n) cause []) s

section Waiters

variable (s : State) (n : SlotIx) (cause : NoticeCause)

theorem tellWaiters_cons (w : CtrlIx) (ws : List CtrlIx) :
    s.tellWaiters n cause (w :: ws) = (s.notify w .waitEnded (slotByte n) cause []).tellWaiters n cause ws := rfl

@[simp] theorem slot_tellWaiters (ws : List CtrlIx) (m : SlotIx) : (s.tellWaiters n cause ws).slot m = s.slot m :=
  foldl_keeps _ (·.slot m) (fun u l => slot_notify u l _ _ _ _ m) ws s

@[simp] theorem entries_tellWaiters (ws : List CtrlIx) : (s.tellWaiters n cause ws).entries = s.entries :=
  foldl_keeps (fun u l => u.notify l .waitEnded (slotByte n) cause []) State.entries (fun _ _ => rfl) ws s

@[simp] theorem setting_tellWaiters (ws : List CtrlIx) : (s.tellWaiters n cause ws).setting = s.setting :=
  foldl_keeps (fun u l => u.notify l .waitEnded (slotByte n) cause []) State.setting (fun _ _ => rfl) ws s

theorem noticeId_tellWaiters (ws : List CtrlIx) :
    (s.tellWaiters n cause ws).noticeId = s.noticeId + BitVec.ofNat 8 ws.length := by
  induction ws generalizing s with
  | nil => exact (BitVec.add_zero _).symm
  | cons w ws ih =>
    rw [tellWaiters_cons, ih, noticeId_notify, List.length_cons, noticeId_succ_add]

theorem ctrl_tellWaiters_of_not_mem {l : CtrlIx} {ws : List CtrlIx} (h : l ∉ ws) :
    (s.tellWaiters n cause ws).ctrl l = s.ctrl l := by
  induction ws generalizing s with
  | nil => rfl
  | cons w ws ih =>
    obtain ⟨hw, hws⟩ := List.ne_and_not_mem_of_not_mem_cons h
    rw [tellWaiters_cons, ih _ hws, ctrl_notify_ne _ _ _ _ _ hw.symm]

/-- The waiter at place k gets the k-th id. -/
theorem noticeQ_tellWaiters {ws : List CtrlIx} (hnodup : ws.Nodup) {k : Nat} {l : CtrlIx} (hk : ws[k]? = some l)
    (hroom : (s.ctrl l).noticeQ.length < 16) : ((s.tellWaiters n cause ws).ctrl l).noticeQ
      = (s.ctrl l).noticeQ ++ [⟨s.noticeId + BitVec.ofNat 8 k, .waitEnded, slotByte n, cause, []⟩] := by
  induction ws generalizing s k with
  | nil => cases hk
  | cons w ws ih =>
    obtain ⟨hw, hws⟩ := List.nodup_cons.mp hnodup
    rw [tellWaiters_cons]
    cases k with
    | zero =>
      obtain rfl : w = l := Option.some.inj hk
      rw [ctrl_tellWaiters_of_not_mem _ _ _ hw, noticeQ_notify _ _ _ _ _ _ hroom, BitVec.add_zero]
    | succ k =>
      have hl : l ∈ ws := List.mem_of_getElem? hk
      have hctrl : (s.notify w .waitEnded (slotByte n) cause []).ctrl l = s.ctrl l :=
        ctrl_notify_ne _ _ _ _ _ (ne_of_mem_of_not_mem hl hw).symm
      rw [ih _ hws hk (hctrl ▸ hroom), hctrl, noticeId_notify, noticeId_succ_add]

end Waiters

/-! ## The clearing of a record (R122, R123) -/

/-- The holder of a slot, if it has one, is told that its reservation is revoked. -/
def State.tellHolder (s : State) (n : SlotIx) (cause : NoticeCause) : State :=
  match (s.slot n).resv.holder with
  | some l => s.notify l .resvRevoked (slotByte n) cause []
  | none => s

theorem clearReservation_eq (s : State) (n : SlotIx) (cause : NoticeCause) : s.clearReservation n cause
    = ((s.tellHolder n cause).tellWaiters n cause (s.slot n).resv.waiting).onResv n fun _ => Reservation.empty := rfl

section Holder

variable (s : State) (n : SlotIx) (cause : NoticeCause)

theorem entries_tellHolder : (s.tellHolder n cause).entries = s.entries := by
  unfold State.tellHolder
  split <;> rfl

theorem noticeId_tellHolder : (s.tellHolder n cause).noticeId
    = s.noticeId + BitVec.ofNat 8 (s.slot n).resv.holder.toList.length := by
  unfold State.tellHolder
  cases (s.slot n).resv.holder with
  | none => exact (BitVec.add_zero _).symm
  | some l => rfl

theorem noticeQ_tellHolder {h : CtrlIx} (hh : (s.slot n).resv.holder = some h)
    (hroom : (s.ctrl h).noticeQ.length < 16) : ((s.tellHolder n cause).ctrl h).noticeQ
      = (s.ctrl h).noticeQ ++ [⟨s.noticeId, .resvRevoked, slotByte n, cause, []⟩] := by
  simp only [State.tellHolder, hh]
  exact noticeQ_notify _ _ _ _ _ _ hroom

theorem ctrl_tellHolder_ne {l : CtrlIx} (h : (s.slot n).resv.holder ≠ some l) :
    (s.tellHolder n cause).ctrl l = s.ctrl l := by
  unfold State.tellHolder
  split
  next m hm => exact ctrl_notify_ne _ _ _ _ _ fun hml => h (hml ▸ hm)
  next => rfl

theorem ctrl_clearReservation (l : CtrlIx) : (s.clearReservation n cause).ctrl l
    = ((s.tellHolder n cause).tellWaiters n cause (s.slot n).resv.waiting).ctrl l := rfl

theorem entries_clearReservation : (s.clearReservation n cause).entries = s.entries :=
  (entries_tellWaiters _ n cause _).trans (entries_tellHolder s n cause)

theorem noticeId_clearReservation : (s.clearReservation n cause).noticeId
    = s.noticeId + BitVec.ofNat 8 ((s.slot n).resv.holder.toList.length + (s.slot n).resv.waiting.length) := by
  rw [BitVec.ofNat_add, ← BitVec.add_assoc, ← noticeId_tellHolder s n cause, ← noticeId_tellWaiters]
  rfl

theorem noticeQ_clearReservation_of_holder {h : CtrlIx} (hh : (s.slot n).resv.holder = some h)
    (hnot : h ∉ (s.slot n).resv.waiting) (hroom : (s.ctrl h).noticeQ.length < 16) :
    ((s.clearReservation n cause).ctrl h).noticeQ
      = (s.ctrl h).noticeQ ++ [⟨s.noticeId, .resvRevoked, slotByte n, cause, []⟩] := by
  rw [ctrl_clearReservation, ctrl_tellWaiters_of_not_mem _ _ _ hnot, noticeQ_tellHolder _ _ _ hh hroom]

/-- The waiters are told after the holder, if there is one. -/
theorem noticeQ_clearReservation_of_waiter (hnodup : (s.slot n).resv.waiting.Nodup) {k : Nat} {l : CtrlIx}
    (hk : (s.slot n).resv.waiting[k]? = some l) (hne : (s.slot n).resv.holder ≠ some l)
    (hroom : (s.ctrl l).noticeQ.length < 16) : ((s.clearReservation n cause).ctrl l).noticeQ = (s.ctrl l).noticeQ
      ++ [⟨s.noticeId + BitVec.ofNat 8 ((s.slot n).resv.holder.toList.length + k), .waitEnded, slotByte n, cause,
        []⟩] := by
  have hctrl := ctrl_tellHolder_ne s n cause hne
  rw [ctrl_clearReservation, noticeQ_tellWaiters _ _ _ hnodup hk (hctrl ▸ hroom), hctrl, noticeId_tellHolder,
    BitVec.add_assoc, ← BitVec.ofNat_add]

end Holder

/-! ## The hand-over (R118) -/

/-- The slot is given to a waiter: it becomes holder with its lease started, those behind it wait on, it is told, and
its grant preempts. -/
def State.grantTo (s : State) (n : SlotIx) (w : CtrlIx) (rest : List CtrlIx) : State :=
  (((s.onResv n fun r => { r with waiting := rest }).makeHolder n w).notify w .resvGranted (slotByte n) .none
    []).preempt n w

/-- The slot has lost its holder. -/
def State.freeSlot (s : State) (n : SlotIx) : State := s.onResv n fun r => { r with holder := none, lease := none }

theorem handOver_eq (s : State) (n : SlotIx) :
    s.handOver n = (s.freeSlot n).handOverTo n (s.slot n).resv.waiting := rfl

theorem handOverTo_nil (s : State) (n : SlotIx) :
    s.handOverTo n [] = s.onResv n fun r => { r with waiting := [] } := rfl

theorem handOverTo_of_access {s : State} {n : SlotIx} {w : CtrlIx} (h : s.access w n = .full) (rest : List CtrlIx) :
    s.handOverTo n (w :: rest) = s.grantTo n w rest := if_pos h

theorem handOverTo_of_no_access {s : State} {n : SlotIx} {w : CtrlIx} (h : s.access w n ≠ .full)
    (rest : List CtrlIx) : s.handOverTo n (w :: rest)
      = (s.notify w .waitEnded (slotByte n) .access []).handOverTo n rest := if_neg h

theorem access_of_setting_eq {s t : State} (h : t.setting = s.setting) (l : CtrlIx) (n : SlotIx) :
    t.access l n = s.access l n := by
  simp only [State.access, active_of_setting_eq h]

theorem leaseExpiryFrom_of_setting_eq {s t : State} (h : t.setting = s.setting) (n : SlotIx) :
    t.leaseExpiryFrom n = s.leaseExpiryFrom n := by
  have hconfig : t.slotConfig n = s.slotConfig n := by rw [State.slotConfig, active_of_setting_eq h, State.slotConfig]
  rw [leaseExpiryFrom_eq, leaseExpiryFrom_eq, hconfig, now_of_setting_eq h]

/-- The waiters without FULL access before the first with it are only told that their wait has ended. -/
theorem handOverTo_skip {s : State} {n : SlotIx} {skipped : List CtrlIx} (h : ∀ l ∈ skipped, s.access l n ≠ .full)
    (ws : List CtrlIx) : s.handOverTo n (skipped ++ ws) = (s.tellWaiters n .access skipped).handOverTo n ws := by
  induction skipped generalizing s with
  | nil => rfl
  | cons l skipped ih =>
    obtain ⟨hl, hrest⟩ := List.forall_mem_cons.mp h
    rw [List.cons_append, handOverTo_of_no_access hl, tellWaiters_cons]
    exact ih hrest

section Grant

variable (s : State) (n : SlotIx)

theorem resv_onResv_self (f : Reservation → Reservation) : ((s.onResv n f).slot n).resv = f (s.slot n).resv := by
  rw [State.onResv, slot_onSlot_self]

theorem unlisted_endExchange (i : XtIx) (r : Response) (m : CtrlIx) :
    ((s.endExchange i r false).ctrl m).unlisted = (s.ctrl m).unlisted := by
  rcases exchange_eq_none_or_some s i with hx | ⟨x, hx⟩
  · simp only [State.endExchange, hx]
  · rw [endExchange_without_orphan hx, unlisted_handToOrderUnit, State.withdrawSend, ctrl_onSlot, ctrl_closeSlotSide]

/-- Preemption touches of the links only their order lists. -/
theorem unlisted_preempt (l m : CtrlIx) : ((s.preempt n l).ctrl m).unlisted = (s.ctrl m).unlisted := by
  refine foldl_keeps _ (fun u => (u.ctrl m).unlisted) (fun u i => ?_) _ _
  unfold State.preemptOne
  split
  · split
    · exact unlisted_endExchange ..
    · rfl
  · rfl

theorem noticeQ_preempt (l m : CtrlIx) : ((s.preempt n l).ctrl m).noticeQ = (s.ctrl m).noticeQ := by
  have h := congrArg CtrlBlock.noticeQ (unlisted_preempt s n l m)
  exact h

theorem noticeId_preempt (l : CtrlIx) : (s.preempt n l).noticeId = s.noticeId :=
  congrArg (fun g => g.2.2.2.2.1) (ground_preempt s n l)

variable (w : CtrlIx) (rest : List CtrlIx)

theorem resv_grantTo : ((s.grantTo n w rest).slot n).resv = ⟨some w, s.leaseExpiryFrom n, rest⟩ := by
  rw [State.grantTo, resv_preempt, slot_notify, makeHolder_eq, resv_onResv_self, resv_onResv_self]
  rfl

theorem noticeId_grantTo : (s.grantTo n w rest).noticeId = s.noticeId + 1 := by
  rw [State.grantTo, noticeId_preempt]
  rfl

theorem noticeQ_grantTo_self (hroom : (s.ctrl w).noticeQ.length < 16) : ((s.grantTo n w rest).ctrl w).noticeQ
    = (s.ctrl w).noticeQ ++ [⟨s.noticeId, .resvGranted, slotByte n, .none, []⟩] := by
  rw [State.grantTo, noticeQ_preempt]
  exact noticeQ_notify _ _ _ _ _ _ hroom

theorem noticeQ_grantTo_ne {l : CtrlIx} (h : l ≠ w) :
    ((s.grantTo n w rest).ctrl l).noticeQ = (s.ctrl l).noticeQ := by
  rw [State.grantTo, noticeQ_preempt, ctrl_notify_ne _ _ _ _ _ h.symm]
  rfl

end Grant

section HandOver

variable {s : State} {n : SlotIx}

/-- A hand-over with a waiter that has FULL access: those before the first are told, and it gets the slot. -/
theorem handOver_of_access {skipped rest : List CtrlIx} {w : CtrlIx}
    (hws : (s.slot n).resv.waiting = skipped ++ w :: rest) (hskip : ∀ l ∈ skipped, s.access l n ≠ .full)
    (hw : s.access w n = .full) :
    s.handOver n = ((s.freeSlot n).tellWaiters n .access skipped).grantTo n w rest := by
  rw [handOver_eq, hws, handOverTo_skip (s := s.freeSlot n) hskip]
  refine handOverTo_of_access ?_ rest
  rw [access_of_setting_eq (setting_tellWaiters ..)]
  exact hw

/-- A hand-over without such a waiter: all are told, and nobody waits. -/
theorem handOver_of_no_access (h : ∀ l ∈ (s.slot n).resv.waiting, s.access l n ≠ .full) :
    s.handOver n = ((s.freeSlot n).tellWaiters n .access (s.slot n).resv.waiting).onResv n
      fun r => { r with waiting := [] } := by
  have hskip := handOverTo_skip (s := s.freeSlot n) h []
  rwa [List.append_nil] at hskip

end HandOver

section Granted

variable {s : State} {n : SlotIx} {skipped rest : List CtrlIx} {w : CtrlIx}
  (hws : (s.slot n).resv.waiting = skipped ++ w :: rest) (hskip : ∀ l ∈ skipped, s.access l n ≠ .full)
  (hw : s.access w n = .full)

include hws hskip hw

theorem resv_handOver_of_access :
    ((s.handOver n).slot n).resv = ⟨some w, s.leaseExpiryFrom n, rest⟩ := by
  rw [handOver_of_access hws hskip hw, resv_grantTo, leaseExpiryFrom_of_setting_eq (setting_tellWaiters ..)]
  rfl

theorem noticeId_handOver_of_access :
    (s.handOver n).noticeId = s.noticeId + BitVec.ofNat 8 (skipped.length + 1) := by
  rw [handOver_of_access hws hskip hw, noticeId_grantTo, noticeId_tellWaiters, BitVec.ofNat_add, BitVec.add_assoc]
  rfl

/-- The new holder is told after the waiters that were skipped. -/
theorem noticeQ_handOver_self (hnew : w ∉ skipped) (hroom : (s.ctrl w).noticeQ.length < 16) :
    ((s.handOver n).ctrl w).noticeQ = (s.ctrl w).noticeQ
      ++ [⟨s.noticeId + BitVec.ofNat 8 skipped.length, .resvGranted, slotByte n, .none, []⟩] := by
  have hctrl : ((s.freeSlot n).tellWaiters n .access skipped).ctrl w = s.ctrl w :=
    ctrl_tellWaiters_of_not_mem _ _ _ hnew
  rw [handOver_of_access hws hskip hw, noticeQ_grantTo_self _ _ _ _ (hctrl ▸ hroom), hctrl, noticeId_tellWaiters]
  rfl

theorem noticeQ_handOver_of_skipped (hnodup : (s.slot n).resv.waiting.Nodup) {k : Nat} {l : CtrlIx}
    (hk : skipped[k]? = some l) (hroom : (s.ctrl l).noticeQ.length < 16) :
    ((s.handOver n).ctrl l).noticeQ = (s.ctrl l).noticeQ
      ++ [⟨s.noticeId + BitVec.ofNat 8 k, .waitEnded, slotByte n, .access, []⟩] := by
  obtain ⟨hskipped, -, hapart⟩ := List.nodup_append.mp (hws ▸ hnodup)
  have hlw : l ≠ w := hapart l (List.mem_of_getElem? hk) w List.mem_cons_self
  rw [handOver_of_access hws hskip hw, noticeQ_grantTo_ne _ _ _ _ hlw]
  exact noticeQ_tellWaiters (s.freeSlot n) n .access hskipped hk hroom

theorem noticeQ_handOver_of_not_told {l : CtrlIx} (hl : l ≠ w) (hnot : l ∉ skipped) :
    ((s.handOver n).ctrl l).noticeQ = (s.ctrl l).noticeQ := by
  rw [handOver_of_access hws hskip hw, noticeQ_grantTo_ne _ _ _ _ hl, ctrl_tellWaiters_of_not_mem _ _ _ hnot]
  rfl

end Granted

/-- Settles O26: the two ways a hand-over ends, the clearing, and the one notice of which all is made. -/
theorem handOverAndClearing : Obligations.HandOverAndClearing := by
  intro s n R gets
  refine ⟨?granted, ?free, ?cleared, ?notice⟩
  case granted =>
    intro skipped w rest hws hskip hw t
    refine ⟨?_, noticeId_handOver_of_access hws hskip hw, noticeQ_handOver_self hws hskip hw,
      fun hnodup k l => noticeQ_handOver_of_skipped hws hskip hw hnodup,
      fun l => noticeQ_handOver_of_not_told hws hskip hw⟩
    rw [resv_handOver_of_access hws hskip hw, leaseExpiryFrom_eq]
  case free =>
    intro hnone
    rw [handOver_of_no_access hnone]
    refine ⟨?_, noticeId_tellWaiters .., fun hnodup k l => noticeQ_tellWaiters (s.freeSlot n) n .access hnodup,
      fun l => ctrl_tellWaiters_of_not_mem (s.freeSlot n) n .access⟩
    rw [resv_onResv_self, slot_tellWaiters, State.freeSlot, resv_onResv_self]
  case cleared =>
    intro cause t held
    refine ⟨?_, fun m hm => ?_, noticeId_clearReservation s n cause, fun h hh hnot hroom => ?_,
      fun hnodup k l hk hne => noticeQ_clearReservation_of_waiter s n cause hnodup hk hne, fun l hne hnot => ?_,
      entries_clearReservation s n cause⟩
    · rw [slot_clearReservation, if_pos rfl]
      rfl
    · rw [slot_clearReservation, if_neg hm.symm]
    · rw [noticeQ_clearReservation_of_holder s n cause hh hnot hroom, BitVec.add_zero]
      rfl
    · rw [ctrl_clearReservation, ctrl_tellWaiters_of_not_mem _ _ _ hnot, ctrl_tellHolder_ne s n cause hne]
  case notice =>
    intro l kind subject cause data t
    have hself : t.ctrl l = (s.ctrl l).addNotice ⟨s.noticeId, kind, subject, cause, data⟩ := by
      rw [ctrl_notify, if_pos rfl]
    exact ⟨fun hroom => hself.trans (addNotice_of_room _ hroom), fun hfull => hself.trans (addNotice_of_full _ hfull),
      fun l' hl' => ctrl_notify_ne _ _ _ _ _ hl'.symm, rfl⟩

end Sys2Proof.Machine
end

section
/-! PROOFS. Preemption at a grant (Section 7, R119): which exchanges it ends, and what an ending does to the phases of
the others. -/

namespace Sys2Proof.Machine

open Sys2Proof

/-! ## Releases of HELD entries (R80) -/

theorem sameOrReleased_trans {x y z : Exchange} (h : x.sameOrReleased y) (h' : y.sameOrReleased z) :
    x.sameOrReleased z := by
  rcases h with rfl | ⟨r, hr, rfl⟩
  · exact h'
  · rcases h' with rfl | ⟨r', hr', -⟩
    · exact .inr ⟨r, hr, rfl⟩
    · cases hr'

/-- An exchange that does not wait for its order is the same after releases from HELD. -/
theorem eq_of_sameOrReleased {x y : Exchange} (h : x.sameOrReleased y) (hx : x.isHeld = false) : y = x := by
  rcases h with h | ⟨r, hr, -⟩
  · exact h
  · simp [Exchange.isHeld, hr] at hx

/-- The live exchange at index i is as it was in s, but for a release from HELD. -/
def State.KeepsAt (s t : State) (i : XtIx) : Prop :=
  ∀ x, s.exchange i = some x → ∃ y, t.exchange i = some y ∧ x.sameOrReleased y

theorem keepsAt_of_entry_eq {s t : State} {i : XtIx} (h : t.entry i = s.entry i) : s.KeepsAt t i :=
  fun x hx => ⟨x, by rwa [State.exchange, h], .inl rfl⟩

theorem keepsAt_trans {s t u : State} {i : XtIx} (h : s.KeepsAt t i) (h' : t.KeepsAt u i) : s.KeepsAt u i := by
  intro x hx
  obtain ⟨y, hy, hxy⟩ := h x hx
  obtain ⟨z, hz, hyz⟩ := h' y hy
  exact ⟨z, hz, sameOrReleased_trans hxy hyz⟩

theorem keepsAt_foldl {β : Type} {f : State → β → State} {i : XtIx} (h : ∀ u b, State.KeepsAt u (f u b) i)
    (bs : List β) (s : State) : s.KeepsAt (bs.foldl f s) i :=
  List.foldlRecOn bs f (keepsAt_of_entry_eq rfl) fun u hu b _ => keepsAt_trans hu (h u b)

theorem keepsAt_releaseHeld (s : State) (l : CtrlIx) (i j : XtIx) : s.KeepsAt (s.releaseHeld l i) j := by
  by_cases hij : j = i
  · subst hij
    intro x hx
    by_cases hheld : ∃ r, x.phase = .held r
    · obtain ⟨r, hr⟩ := hheld
      exact ⟨_, by rw [releaseHeld_of_held hx hr, exchange_release_self hx], .inr ⟨r, hr, rfl⟩⟩
    · refine ⟨x, ?_, .inl rfl⟩
      have hstay : s.releaseHeld l j = s := by
        simp only [State.releaseHeld, hx]
        split
        next r hr => exact absurd ⟨r, hr⟩ hheld
        next => rfl
      rw [hstay, hx]
  · exact keepsAt_of_entry_eq (entry_releaseHeld_ne s l hij)

theorem keepsAt_cascade (s : State) (l : CtrlIx) (i : XtIx) : s.KeepsAt (s.cascade l) i := by
  rw [cascade_eq_releaseAll]
  exact keepsAt_trans (keepsAt_of_entry_eq (entry_onCtrl ..))
    (keepsAt_foldl (fun u j => keepsAt_releaseHeld u l j i) _ _)

/-! ## Endings -/

/-- The Order Unit places the response HELD or RELEASED (R79). -/
theorem exchange_handToOrderUnit_self {s : State} {i : XtIx} {x : Exchange} (r : Response)
    (hx : s.exchange i = some x) : (s.handToOrderUnit i x r).exchange i = some (x.withPhase (.held r))
      ∨ (s.handToOrderUnit i x r).exchange i = some (x.withPhase (.released r)) := by
  cases ho : x.id.ordered with
  | false =>
    rw [handToOrderUnit_of_unordered s i r ho]
    exact .inr (exchange_release_self hx _ r)
  | true =>
    by_cases hhead : s.orderHead x.id.link = some i
    · rw [handToOrderUnit_of_head r ho hhead]
      obtain ⟨y, hy, hsame⟩ := keepsAt_cascade _ x.id.link i _ (exchange_releaseHead_self hx x.id.link r)
      exact .inr (hy.trans (congrArg some (eq_of_sameOrReleased hsame rfl)))
    · rw [handToOrderUnit_behind_head r ho hhead]
      exact .inl (exchange_setPhase_self hx _)

theorem keepsAt_handToOrderUnit (s : State) (i : XtIx) (x : Exchange) (r : Response) {j : XtIx} (h : j ≠ i) :
    s.KeepsAt (s.handToOrderUnit i x r) j := by
  cases ho : x.id.ordered with
  | false =>
    rw [handToOrderUnit_of_unordered s i r ho]
    exact keepsAt_of_entry_eq (entry_release_ne s _ r h)
  | true =>
    by_cases hhead : s.orderHead x.id.link = some i
    · rw [handToOrderUnit_of_head r ho hhead]
      exact keepsAt_trans (keepsAt_of_entry_eq (entry_releaseHead_ne s _ r h)) (keepsAt_cascade _ _ j)
    · rw [handToOrderUnit_behind_head r ho hhead]
      exact keepsAt_of_entry_eq (entry_setPhase_ne s _ h)

/-- The state in which an ending without an orphan hands its response to the Order Unit has every entry as before. -/
theorem entry_closed (s : State) (i j : XtIx) (x : Exchange) (kept : Nat) :
    ((s.closeSlotSide i x kept none).withdrawSend x.id.slot (.cancel (s.relayTag i))).entry j = s.entry j := by
  rw [State.withdrawSend, entry_onSlot, State.entry, entries_closeSlotSide, State.entry]

theorem exchange_endExchange_self {s : State} {i : XtIx} {x : Exchange} (r : Response) (hx : s.exchange i = some x) :
    (s.endExchange i r false).exchange i = some (x.withPhase (.held r))
      ∨ (s.endExchange i r false).exchange i = some (x.withPhase (.released r)) := by
  rw [endExchange_without_orphan hx]
  exact exchange_handToOrderUnit_self r (by rw [State.exchange, entry_closed]; exact hx)

theorem keepsAt_endExchange (s : State) {i j : XtIx} (r : Response) (h : j ≠ i) :
    s.KeepsAt (s.endExchange i r false) j := by
  rcases exchange_eq_none_or_some s i with hx | ⟨x, hx⟩
  · exact keepsAt_of_entry_eq (by simp only [State.endExchange, hx])
  · rw [endExchange_without_orphan hx]
    exact keepsAt_trans (keepsAt_of_entry_eq (entry_closed ..)) (keepsAt_handToOrderUnit _ i x r h)

/-! ## Preemption (R119) -/

/-- A grant to link l ends this exchange. -/
def Exchange.preemptedBy (x : Exchange) (l : CtrlIx) : Prop :=
  x.id.cls = .action ∧ x.id.link ≠ l ∧ x.isQueued = true

theorem preemptOne_of_preempted {s : State} {l : CtrlIx} {i : XtIx} {x : Exchange} (hx : s.exchange i = some x)
    (h : x.preemptedBy l) : s.preemptOne l i = s.endExchange i (.relay .preempted) false := by
  simp only [State.preemptOne, hx]
  exact if_pos h

theorem preemptOne_of_not_preempted {s : State} {l : CtrlIx} {i : XtIx}
    (h : ∀ x, s.exchange i = some x → ¬ x.preemptedBy l) : s.preemptOne l i = s := by
  rcases exchange_eq_none_or_some s i with hx | ⟨x, hx⟩
  · simp only [State.preemptOne, hx]
  · simp only [State.preemptOne, hx]
    exact if_neg (h x hx)

theorem keepsAt_preemptOne_ne (s : State) (l : CtrlIx) {i j : XtIx} (h : j ≠ i) : s.KeepsAt (s.preemptOne l i) j := by
  by_cases hp : ∃ x, s.exchange i = some x ∧ x.preemptedBy l
  · obtain ⟨x, hx, hpre⟩ := hp
    rw [preemptOne_of_preempted hx hpre]
    exact keepsAt_endExchange s _ h
  · rw [preemptOne_of_not_preempted fun x hx hpre => hp ⟨x, hx, hpre⟩]
    exact keepsAt_of_entry_eq rfl

theorem preemptedBy_of_sameOrReleased {x y : Exchange} {l : CtrlIx} (h : x.sameOrReleased y)
    (hy : y.preemptedBy l) : x.preemptedBy l := by
  rcases h with rfl | ⟨r, -, rfl⟩
  · exact hy
  · obtain ⟨-, -, hq⟩ := hy
    cases hq

theorem not_held_of_preempted {x : Exchange} {l : CtrlIx} (h : x.preemptedBy l) : x.isHeld = false := by
  obtain ⟨-, -, hq⟩ := h
  unfold Exchange.isQueued at hq
  unfold Exchange.isHeld
  split at hq
  next c hc => rw [hc]
  next => cases hq

theorem not_preemptedBy_of_not_queued {x : Exchange} (h : x.isQueued = false) (l : CtrlIx) : ¬ x.preemptedBy l := by
  rintro ⟨-, -, hq⟩
  simp [h] at hq

/-- The exchanges of a list at a grant to link l, one after another. -/
def State.preemptList (s : State) (l : CtrlIx) (is : List XtIx) : State := is.foldl (fun s i => s.preemptOne l i) s

theorem preempt_eq (s : State) (n : SlotIx) (l : CtrlIx) : s.preempt n l = s.preemptList l (s.slot n).queue := rfl

theorem preemptList_cons (s : State) (l : CtrlIx) (i : XtIx) (is : List XtIx) :
    s.preemptList l (i :: is) = (s.preemptOne l i).preemptList l is := rfl

/-- An exchange that the grant does not end stays, whatever else of the list it ends. -/
theorem keepsAt_preemptList {s : State} {l : CtrlIx} {j : XtIx} {is : List XtIx}
    (h : j ∉ is ∨ ∀ x, s.exchange j = some x → ¬ x.preemptedBy l) : s.KeepsAt (s.preemptList l is) j := by
  induction is generalizing s with
  | nil => exact keepsAt_of_entry_eq rfl
  | cons i is ih =>
    rw [preemptList_cons]
    have hstep : s.KeepsAt (s.preemptOne l i) j := by
      by_cases hji : j = i
      · subst hji
        rw [preemptOne_of_not_preempted (h.resolve_left (by simp))]
        exact keepsAt_of_entry_eq rfl
      · exact keepsAt_preemptOne_ne s l hji
    refine fun x hx => keepsAt_trans hstep (ih ?_) x hx
    refine h.imp (fun hj hmem => hj (List.mem_cons_of_mem i hmem)) fun hnot y hy hpre => ?_
    obtain ⟨z, hz, hxz⟩ := hstep x hx
    obtain rfl : z = y := Option.some.inj (hz.symm.trans hy)
    exact hnot x hx (preemptedBy_of_sameOrReleased hxz hpre)

/-- An exchange that has ended stays ended with its response. -/
theorem exchange_preemptList_of_ended {s : State} {l : CtrlIx} {j : XtIx} {is : List XtIx} {x : Exchange}
    {r : Response}
    (h : s.exchange j = some (x.withPhase (.held r)) ∨ s.exchange j = some (x.withPhase (.released r))) :
    (s.preemptList l is).exchange j = some (x.withPhase (.held r))
      ∨ (s.preemptList l is).exchange j = some (x.withPhase (.released r)) := by
  have hkeeps : ∀ y, s.exchange j = some y → y.isQueued = false → s.KeepsAt (s.preemptList l is) j :=
    fun y hy hq => keepsAt_preemptList (.inr fun z hz => by
      obtain rfl : y = z := Option.some.inj (hy.symm.trans hz)
      exact not_preemptedBy_of_not_queued hq l)
  rcases h with hy | hy
  · obtain ⟨z, hz, hsame⟩ := hkeeps _ hy rfl _ hy
    rcases hsame with rfl | ⟨r', hr, rfl⟩
    · exact .inl hz
    · cases hr
      exact .inr hz
  · obtain ⟨z, hz, hsame⟩ := hkeeps _ hy rfl _ hy
    exact .inr (hz.trans (congrArg some (eq_of_sameOrReleased hsame rfl)))

/-- An exchange of the list that the grant ends is HELD or RELEASED with PREEMPTED. -/
theorem exchange_preemptList_of_preempted {s : State} {l : CtrlIx} {j : XtIx} {is : List XtIx} (hj : j ∈ is)
    {x : Exchange} (hx : s.exchange j = some x) (hpre : x.preemptedBy l) :
    (s.preemptList l is).exchange j = some (x.withPhase (.held (.relay .preempted)))
      ∨ (s.preemptList l is).exchange j = some (x.withPhase (.released (.relay .preempted))) := by
  induction is generalizing s with
  | nil => cases hj
  | cons i is ih =>
    rw [preemptList_cons]
    by_cases hji : j = i
    · subst hji
      rw [preemptOne_of_preempted hx hpre]
      exact exchange_preemptList_of_ended (exchange_endExchange_self _ hx)
    · obtain ⟨y, hy, hsame⟩ := keepsAt_preemptOne_ne s l hji x hx
      obtain rfl := eq_of_sameOrReleased hsame (not_held_of_preempted hpre)
      exact ih ((List.mem_cons.mp hj).resolve_left hji) hy

/-- Settles O27: what the grant ends, and what it leaves. -/
theorem grantPreemptsForeignActions : Obligations.GrantPreemptsForeignActions := by
  intro s n l i x hx t
  refine ⟨fun hi hq ha hl => exchange_preemptList_of_preempted hi hx ⟨ha, hl, hq⟩, fun h => ?_⟩
  refine keepsAt_preemptList (h.imp_right fun hx' y hy => ?_) x hx
  obtain rfl : x = y := Option.some.inj (hx.symm.trans hy)
  rintro ⟨ha, hl, hq⟩
  rcases hx' with h | h | h
  · exact absurd hq (by simp [h])
  · exact absurd ha (by simp [h])
  · exact hl h

end Sys2Proof.Machine
end

section
/-! PROOFS. Every event is made of the operations on the entries and the slots, and of writes to the links, the queues
of frames, the notices and the clock. A property that the operations keep and the writes do not touch is kept by every
step. -/

namespace Sys2Proof.Machine

open Sys2Proof

/-! ## The core of a state -/

/-- The lists of entries that a link has. -/
def CtrlBlock.lists (b : CtrlBlock) : List XtIx × List XtIx := (b.orderList, b.releaseQ)

/-- A slot without its link and its Slot Send Queue. -/
def SlotBlock.core (b : SlotBlock) : SlotBlock := { b with link := LinkBlock.reset, sendQ := [] }

/-- The Exchange Table with its lists, the pools, the active bank and the slots: the state without clock and commands,
links, queues of frames, notices, staged bank and waiting causes. -/
def State.core (s : State) : Vector Entry 64 × List XtIx × (Nat × Nat × Vector Nat 4) × Bank
    × (CtrlIx → List XtIx × List XtIx) × (SlotIx → SlotBlock) :=
  (s.entries, s.admissionOrder, (s.cmdFree, s.generalFree, s.reserveFree), s.active,
    fun l => (s.ctrl l).lists, fun n => (s.slot n).core)

@[simp] theorem resv_core (b : SlotBlock) : b.core.resv = b.resv := rfl
@[simp] theorem queue_core (b : SlotBlock) : b.core.queue = b.queue := rfl

theorem entries_of_core_eq {s t : State} (h : t.core = s.core) : t.entries = s.entries := congrArg Prod.fst h

theorem exchange_of_core_eq {s t : State} (h : t.core = s.core) (i : XtIx) : t.exchange i = s.exchange i := by
  rw [State.exchange, State.entry, entries_of_core_eq h, State.exchange, State.entry]

theorem slot_core_of_core_eq {s t : State} (h : t.core = s.core) (n : SlotIx) : (t.slot n).core = (s.slot n).core :=
  congrFun (congrArg (fun c => c.2.2.2.2.2) h) n

theorem resv_of_core_eq {s t : State} (h : t.core = s.core) (n : SlotIx) : (t.slot n).resv = (s.slot n).resv := by
  rw [← resv_core, slot_core_of_core_eq h, resv_core]

theorem queue_of_core_eq {s t : State} (h : t.core = s.core) (n : SlotIx) : (t.slot n).queue = (s.slot n).queue := by
  rw [← queue_core, slot_core_of_core_eq h, queue_core]

theorem core_onCtrl {s : State} {l : CtrlIx} {f : CtrlBlock → CtrlBlock}
    (h : (f (s.ctrl l)).lists = (s.ctrl l).lists) : (s.onCtrl l f).core = s.core := by
  have hlists : (fun m => ((s.onCtrl l f).ctrl m).lists) = fun m => (s.ctrl m).lists := by
    funext m
    rw [ctrl_onCtrl]
    split
    next hm => exact hm ▸ h
    next => rfl
  simp only [State.core, hlists]
  rfl

theorem core_onSlot {s : State} {n : SlotIx} {f : SlotBlock → SlotBlock}
    (h : (f (s.slot n)).core = (s.slot n).core) : (s.onSlot n f).core = s.core := by
  have hslots : (fun m => ((s.onSlot n f).slot m).core) = fun m => (s.slot m).core := by
    funext m
    rw [slot_onSlot]
    split
    next hm => exact hm ▸ h
    next => rfl
  simp only [State.core, hslots]
  rfl

@[simp] theorem core_onLink (s : State) (k : LinkId) (f : LinkBlock → LinkBlock) : (s.onLink k f).core = s.core := by
  cases k with
  | ctrl l => exact core_onCtrl rfl
  | slot n => exact core_onSlot rfl

@[simp] theorem core_onCtrl_onLink (s : State) (l : CtrlIx) (f : LinkBlock → LinkBlock) :
    (s.onCtrl l (·.onLink f)).core = s.core := core_onLink s (.ctrl l) f

@[simp] theorem core_onSlot_onLink (s : State) (n : SlotIx) (f : LinkBlock → LinkBlock) :
    (s.onSlot n (·.onLink f)).core = s.core := core_onLink s (.slot n) f

@[simp] theorem core_atTime (s : State) (t : Nat) : (s.atTime t).core = s.core := rfl

@[simp] theorem core_withWaiting (s : State) (ws : List WaitingCause) : (s.withWaiting ws).core = s.core := rfl

@[simp] theorem core_tookFrame (s : State) (l : CtrlIx) : (s.tookFrame l).core = s.core := core_onCtrl_onLink s l _

@[simp] theorem core_tookSlotFrame (s : State) (n : SlotIx) : (s.tookSlotFrame n).core = s.core :=
  core_onSlot_onLink s n _

@[simp] theorem core_queueReply (s : State) (l : CtrlIx) (r : ReplyItem) : (s.queueReply l r).core = s.core :=
  core_onCtrl rfl

@[simp] theorem core_answer (s : State) (l : CtrlIx) (tag : Byte) (r : ReplyResult) (d : List Byte) :
    (s.answer l tag r d).core = s.core := core_queueReply ..

@[simp] theorem core_answerResv (s : State) (l : CtrlIx) (tag : Byte) (r : ReplyResult) (d : List Byte) :
    (s.answerResv l tag r d).core = s.core := core_queueReply ..

@[simp] theorem core_endOffer (s : State) (l : CtrlIx) : (s.endOffer l).core = s.core :=
  core_onCtrl (s := s) (l := l) (f := fun b => { b with offered := none }) rfl

theorem lists_addNotice (b : CtrlBlock) (m : Notice) : (b.addNotice m).lists = b.lists := by
  unfold CtrlBlock.addNotice
  split <;> rfl

@[simp] theorem core_notify (s : State) (l : CtrlIx) (k : NoticeKind) (a : Byte) (c : NoticeCause) (d : List Byte) :
    (s.notify l k a c d).core = s.core :=
  core_onCtrl (s := s) (l := l) (f := (·.addNotice ⟨s.noticeId, k, a, c, d⟩)) (lists_addNotice _ _)

@[simp] theorem core_notifyManager (s : State) (k : NoticeKind) (a : Byte) (c : NoticeCause) (d : List Byte) :
    (s.notifyManager k a c d).core = s.core := by
  unfold State.notifyManager
  split
  · exact core_notify ..
  · rfl

theorem core_slot_withdraw (b : SlotBlock) (f : SlotFrame) : (b.withdraw f).core = b.core := by
  obtain ⟨q, hq⟩ := exists_sendQ_withdraw b f
  rw [hq]
  rfl

@[simp] theorem core_queueSend (s : State) (n : SlotIx) (f : SlotFrame) : (s.queueSend n f).core = s.core :=
  core_onSlot rfl

@[simp] theorem core_withdrawSend (s : State) (n : SlotIx) (f : SlotFrame) : (s.withdrawSend n f).core = s.core :=
  core_onSlot (core_slot_withdraw _ f)

@[simp] theorem core_queueCancel (s : State) (t : RelayTag) (x : Exchange) : (s.queueCancel t x).core = s.core := by
  unfold State.queueCancel
  split
  · exact core_queueSend ..
  · exact core_queueSend ..
  · rfl

@[simp] theorem core_settle (s : State) : s.settle.core = s.core := by
  have hlists : (fun l => (s.settle.ctrl l).lists) = fun l => (s.ctrl l).lists := by
    funext l
    rw [ctrl_settle]
    rfl
  have hslots : (fun n => (s.settle.slot n).core) = fun n => (s.slot n).core := by
    funext n
    rw [slot_settle]
    rfl
  simp only [State.core, hlists, hslots]
  rfl

@[simp] theorem core_announce (s : State) (m l : CtrlIx) : (s.announce m l).core = s.core := by
  unfold State.announce
  split
  · exact core_notify ..
  · rfl

/-! ## Properties that the operations keep -/

/-- The property holds after a reset, depends on the core only, and each operation of an event keeps it. -/
structure KeptByOperations (P : State → Prop) : Prop where
  core : ∀ {s t : State}, t.core = s.core → P s → P t
  reset : ∀ strap, P (State.resetWith strap)
  admitCmd : ∀ {s : State} {l c n i}, P s → s.admissionCheck l c = .ok (n, i) → P (s.admitCmd l c n i)
  issueExchange : ∀ {s : State} (i pool), P s → P (s.issueExchange i pool)
  markSent : ∀ {s : State} (i), P s → P (s.markSent i)
  respSent : ∀ {s : State} (l), P s → P (s.respSent l)
  takePark : ∀ {s : State} (n t), P s → P (s.takePark n t)
  takeDone : ∀ {s : State} (n d), P s → P (s.takeDone n d)
  abortEntry : ∀ {s : State} (i), P s → P (s.abortEntry i).1
  takeDeadline : ∀ {s : State} (i), P s → P (s.takeDeadline i)
  takeOrphanExpiry : ∀ {s : State} (n t), P s → P (s.takeOrphanExpiry n t)
  departCtrl : ∀ {s : State} (l cause), P s → P (s.departCtrl l cause)
  restartAll : ∀ {s : State}, P s → P s.restartAll
  takeTake : ∀ {s : State} (l tag n), P s → P (s.takeTake l tag n)
  takeRenew : ∀ {s : State} (l tag n), P s → P (s.takeRenew l tag n)
  takeDrop : ∀ {s : State} (l tag n), P s → P (s.takeDrop l tag n)
  revokeLease : ∀ {s : State} (n), P s → P (s.revokeLease n)
  slotLinkUp : ∀ {s : State} (n), P s → P (s.slotLinkUp n)
  faultSlot : ∀ {s : State} (n cause), P s → P (s.faultSlot n cause)
  escalate : ∀ {s : State} (n), P s → P (s.escalate n)
  resetSlot : ∀ {s : State} (n), P s → P (s.resetSlot n)
  endPulse : ∀ {s : State} {n p}, P s → (s.slot n).state = .resetting p → P (s.setSlotState n .offline)
  acknowledge : ∀ {s : State} (id n), P s → P (s.acknowledge id n)
  clearSlot : ∀ {s : State} {n a}, P s → (s.slot n).state = .faulted a → P (s.clearSlot n)
  activateNow : ∀ {s : State} (m), P s → P (s.activateNow m)

/-- A next state, if the outcome is one, has the property. -/
def LeadsTo (P : State → Prop) (o : Host.Outcome State Fault Refusal) : Prop := ∀ t, o = .next t → P t

section Kept

variable {P : State → Prop}

theorem leadsTo_stay {s : State} (hs : P s) : LeadsTo P s.stay := by
  rintro t ht
  cases ht
  exact hs

namespace KeptByOperations

variable (h : KeptByOperations P) {s : State} (hs : P s)

include h hs

theorem complete : LeadsTo P s.complete := by
  rintro t ht
  cases ht
  exact h.core (core_settle s) hs

/-- An event that leaves the core alone. -/
theorem complete_of_core_eq {t : State} (ht : t.core = s.core) : LeadsTo P t.complete := h.complete (h.core ht hs)

theorem atExpiry (e : Nat) {effect : State → State} (heffect : P (s.atTime (max s.now e)) →
    P (effect (s.atTime (max s.now e)))) : LeadsTo P (s.atExpiry e effect) := by
  unfold State.atExpiry
  dsimp only
  split
  · exact h.complete (heffect (h.core (core_atTime ..) hs))
  · exact leadsTo_stay hs

/-! ## Causes that may wait (R97) -/

theorem takeAbort (l : CtrlIx) (tag : Byte) : P (s.takeAbort l tag) := by
  cases ht : s.tagged l tag with
  | none => exact takeAbort_of_untagged ht ▸ h.core (core_queueReply ..) hs
  | some i => exact takeAbort_of_tagged ht ▸ h.core (core_queueReply ..) (h.abortEntry i hs)

theorem takeRestart (l : CtrlIx) (tag : Byte) : P (s.takeRestart l tag) := by
  unfold State.takeRestart
  split
  · exact h.core (core_answer ..) (h.restartAll hs)
  · exact h.core (core_answer ..) hs

theorem takeSlotReset (l : CtrlIx) (tag : Byte) (n : SlotIx) : P (s.takeSlotReset l tag n) := by
  unfold State.takeSlotReset
  split
  · split
    · exact h.core (core_answer ..) hs
    · exact h.core (core_answer ..) (h.resetSlot n hs)
  · exact h.core (core_answer ..) hs

theorem takeWaiting (w : WaitingCause) : P (s.takeWaiting w) := by
  cases w with
  | abort l tag _ => exact h.takeAbort hs l tag
  | deadline i => exact h.takeDeadline i hs
  | done n d => exact h.takeDone n d hs
  | departure l cause => exact h.departCtrl l cause hs
  | restart l tag => exact h.takeRestart hs l tag
  | slotReset l tag n => exact h.takeSlotReset hs l tag n
  | faultFrame n code => exact h.faultSlot n (.faultFrame code) hs
  | orphanExpired n t => exact h.takeOrphanExpiry n t hs

theorem resolveWaiting : P s.resolveWaiting := by
  refine List.foldlRecOn _ _ hs fun u hu w _ => ?_
  rw [resolveOne_eq]
  split
  · exact h.takeWaiting (h.core (core_withWaiting ..) hu) w
  · exact hu

theorem arise (w : WaitingCause) : P (s.arise w) := by
  unfold State.arise
  split
  · exact h.core (core_withWaiting ..) hs
  · exact h.takeWaiting hs w

/-! ## Links that leave and enter UP -/

theorem departSlotLink (n : SlotIx) (cause : DepartCause) : P (s.departSlotLink n cause) := by
  have hlost := h.faultSlot n .linkLost (h.core (core_onSlot (s := s) (n := n) (f := fun b =>
    { b.onLink (·.depart Config.slotBufferPlaces s.now cause) with sendQ := [] }) rfl) hs)
  unfold State.departSlotLink
  dsimp only
  split
  · exact h.slotLinkUp n hlost
  · exact hlost

theorem linkLeaves (k : LinkId) (cause : DepartCause) : P (s.linkLeaves k cause) := by
  cases k with
  | ctrl l =>
    unfold State.linkLeaves
    dsimp only
    split
    · exact hs
    · exact h.arise hs _
  | slot n => exact h.resolveWaiting (h.departSlotLink hs n cause)

theorem linkEntersUp (k : LinkId) (size : Nat) : P (s.linkEntersUp k size) := by
  have hup := h.core (core_onLink s k (·.toUp size)) hs
  cases k with
  | ctrl l => exact h.core (core_notifyManager ..) hup
  | slot n => exact h.slotLinkUp n hup

/-! ## Pins and lines -/

omit hs in
theorem hardwareReset (strap : CtrlIx) : LeadsTo P (execHardwareReset strap s) := by
  rintro t ht
  cases ht
  exact h.core (s := State.resetWith strap) rfl (h.reset strap)

theorem lineLock (k : LinkId) : LeadsTo P (execLineLock k s) := by
  unfold execLineLock
  split
  · exact leadsTo_stay hs
  · exact h.complete_of_core_eq hs (core_onLink ..)

theorem lineUnlock (k : LinkId) : LeadsTo P (execLineUnlock k s) := by
  unfold execLineUnlock
  split
  · exact h.complete_of_core_eq hs (core_onLink ..)
  · exact leadsTo_stay hs

theorem lineLost (k : LinkId) : P (s.lineLost k) := by
  have hstopped := h.core (core_onLink s k fun b => { b with lineTimer := none }) hs
  unfold State.lineLost
  dsimp only
  split
  · exact h.linkLeaves hstopped k .lineLost
  · exact h.core (core_onLink ..) hstopped
  · exact hstopped

theorem execLineLost (k : LinkId) : LeadsTo P (execLineLost k s) := by
  unfold Machine.execLineLost
  split
  · exact h.atExpiry hs _ fun hu => h.lineLost hu k
  · exact leadsTo_stay hs

theorem creditStall (k : LinkId) : LeadsTo P (execCreditStall k s) := by
  unfold execCreditStall
  split
  · exact h.atExpiry hs _ fun hu => h.linkLeaves (h.core (core_onLink ..) hu) k .creditStall
  · exact leadsTo_stay hs

theorem helloArrives (k : LinkId) (frame : List Byte) : LeadsTo P (s.helloArrives k frame) := by
  unfold State.helloArrives
  split
  · exact h.complete (h.linkEntersUp hs _ _)
  · split
    · exact leadsTo_stay hs
    · exact h.complete (h.linkLeaves hs _ _)
  · exact leadsTo_stay hs

theorem frameArrives (k : LinkId) (a : Arrival) : LeadsTo P (s.frameArrives k a) := by
  unfold State.frameArrives
  split
  · split
    · exact h.complete (h.linkLeaves hs _ _)
    · exact h.complete_of_core_eq hs (core_onLink ..)
  · exact leadsTo_stay hs

/-- A frame is taken for what its kind byte says (log 25). -/
theorem received (k : LinkId) (frame : List Byte) : LeadsTo P (if frame.head? = some helloKind then
    s.helloArrives k frame else s.frameArrives k (checkFrame k frame)) := by
  split
  · exact h.helloArrives hs k frame
  · exact h.frameArrives hs k _

/-! ## Admission and ABORT -/

theorem cmdOffered (l : CtrlIx) : LeadsTo P (execCmdOffered l s) := by
  unfold execCmdOffered
  split
  · exact h.complete_of_core_eq hs ((core_onCtrl rfl).trans (core_tookFrame s l))
  · exact leadsTo_stay hs

theorem takeCmd (l : CtrlIx) (c : CmdFrame) : P (s.takeCmd l c) := by
  have hended := h.core (core_endOffer s l) hs
  cases hcheck : s.admissionCheck l c with
  | error code => exact takeCmd_of_refused hcheck ▸ h.core (core_queueReply ..) hended
  | ok place => exact takeCmd_of_admitted hcheck ▸ h.admitCmd hended ((admissionCheck_endOffer s l l c).trans hcheck)

theorem cmd : LeadsTo P (execCmd s) := by
  unfold execCmd
  split
  · split
    · exact h.complete (h.takeCmd hs _ _)
    · exact leadsTo_stay hs
  · exact leadsTo_stay hs

theorem abort (l : CtrlIx) : LeadsTo P (execAbort l s) := by
  have htook := h.core (core_tookFrame s l) hs
  unfold execAbort
  split
  · dsimp only
    split
    · exact h.complete (h.arise htook _)
    · exact h.complete (h.takeAbort htook l _)
  · exact leadsTo_stay hs

/-! ## Requests -/

theorem resvRequest (l : CtrlIx) (kind : ResvKind) {effect : Byte → State → SlotIx → State}
    (heffect : ∀ tag n, P (s.tookFrame l) → P (effect tag (s.tookFrame l) n)) :
    LeadsTo P (s.resvRequest l kind effect) := by
  have htook := h.core (core_tookFrame s l) hs
  unfold State.resvRequest
  split
  · split
    · unfold State.takeResv
      split
      · exact h.complete (heffect _ _ htook)
      · exact h.complete_of_core_eq htook (core_answerResv ..)
    · exact leadsTo_stay hs
  · exact leadsTo_stay hs

theorem mgmtRequest (l : CtrlIx) (wanted : Byte → Bool) {effect : Byte → List Byte → State → State}
    (heffect : ∀ tag args, P (s.tookFrame l) → P (effect tag args (s.tookFrame l))) :
    LeadsTo P (s.mgmtRequest l wanted effect) := by
  unfold State.mgmtRequest
  split
  · split
    · exact h.complete (heffect _ _ (h.core (core_tookFrame s l) hs))
    · exact leadsTo_stay hs
  · exact leadsTo_stay hs

theorem answered (l : CtrlIx) (tag : Byte) (r : ReplyResult) (d : List Byte) : P (s.answer l tag r d) :=
  h.core (core_answer ..) hs

theorem privileged (l : CtrlIx) (tag : Byte) {effect : State → State} (heffect : P (effect s)) :
    P (s.privileged l tag effect) := by
  unfold State.privileged
  split
  · exact heffect
  · exact h.answered hs _ _ _ _

theorem noArgs (l : CtrlIx) (tag : Byte) (args : List Byte) {effect : State → State} (heffect : P (effect s)) :
    P (s.noArgs l tag args effect) := by
  unfold State.noArgs
  split
  · exact heffect
  · exact h.answered hs _ _ _ _

theorem oneArg (l : CtrlIx) (tag : Byte) (args : List Byte) {effect : Byte → State → State}
    (heffect : ∀ a, P (effect a s)) : P (s.oneArg l tag args effect) := by
  unfold State.oneArg
  split
  · exact heffect _
  · exact h.answered hs _ _ _ _

theorem readIdent (l : CtrlIx) : LeadsTo P (execReadIdent l s) :=
  h.mgmtRequest hs l _ fun _ _ hu => h.noArgs hu _ _ _ (h.answered hu _ _ _ _)

theorem readEntry (l : CtrlIx) : LeadsTo P (execReadEntry l s) := by
  refine h.mgmtRequest hs l _ fun _ _ hu => ?_
  split
  · split <;> exact h.answered hu _ _ _ _
  · exact h.answered hu _ _ _ _

theorem readSlot (l : CtrlIx) : LeadsTo P (execReadSlot l s) := by
  refine h.mgmtRequest hs l _ fun _ _ hu => h.oneArg hu _ _ _ fun _ => ?_
  split <;> exact h.answered hu _ _ _ _

theorem readExchange (l : CtrlIx) : LeadsTo P (execReadExchange l s) := by
  refine h.mgmtRequest hs l _ fun _ _ hu => h.oneArg hu _ _ _ fun _ => ?_
  split <;> exact h.answered hu _ _ _ _

theorem readStore (l : CtrlIx) : LeadsTo P (execReadStore l s) :=
  h.mgmtRequest hs l _ fun _ _ hu => h.noArgs hu _ _ _ (h.answered hu _ _ _ _)

theorem writeEntry (l : CtrlIx) : LeadsTo P (execWriteEntry l s) := by
  refine h.mgmtRequest hs l _ fun _ _ hu => h.privileged hu _ _ ?_
  split
  · exact h.core (core_answer ..) (h.core (s := s.tookFrame l) rfl hu)
  · exact h.answered hu _ _ _ _

theorem revert (l : CtrlIx) : LeadsTo P (execRevert l s) :=
  h.mgmtRequest hs l _ fun _ _ hu => h.privileged hu _ _ (h.noArgs hu _ _ _
    (h.core (core_answer ..) (h.core (s := s.tookFrame l) rfl hu)))

theorem activate (l : CtrlIx) : LeadsTo P (execActivate l s) := by
  refine h.mgmtRequest hs l _ fun _ _ hu => h.privileged hu _ _ (h.noArgs hu _ _ _ ?_)
  split
  · exact h.answered (h.activateNow _ hu) _ _ _ _
  · exact h.answered hu _ _ _ _

theorem noticeAck (l : CtrlIx) : LeadsTo P (execNoticeAck l s) := by
  refine h.mgmtRequest hs l _ fun _ _ hu => h.privileged hu _ _ (h.oneArg hu _ _ _ fun id => ?_)
  split
  · exact h.answered (List.foldlRecOn _ _ hu fun _ hv n _ => h.acknowledge id n hv) _ _ _ _
  · exact h.answered hu _ _ _ _

theorem slotClear (l : CtrlIx) : LeadsTo P (execSlotClear l s) := by
  refine h.mgmtRequest hs l _ fun _ _ hu => h.privileged hu _ _ (h.oneArg hu _ _ _ fun a => ?_)
  split
  · exact h.answered hu _ _ _ _
  · split
    next hfaulted => exact h.answered (h.clearSlot hu hfaulted) _ _ _ _
    next => exact h.answered hu _ _ _ _
    next => exact h.answered hu _ _ _ _
    next => exact h.answered hu _ _ _ _

theorem slotReset (l : CtrlIx) : LeadsTo P (execSlotReset l s) := by
  refine h.mgmtRequest hs l _ fun _ _ hu => h.privileged hu _ _ (h.oneArg hu _ _ _ fun a => ?_)
  split
  · exact h.answered hu _ _ _ _
  · exact h.arise hu _

theorem relayRestart (l : CtrlIx) : LeadsTo P (execRelayRestart l s) :=
  h.mgmtRequest hs l _ fun _ _ hu => h.privileged hu _ _ (h.noArgs hu _ _ _ (h.arise hu _))

theorem mgmtUnknownRequest (l : CtrlIx) : LeadsTo P (execMgmtUnknownRequest l s) :=
  h.mgmtRequest hs l _ fun _ _ hu => h.answered hu _ _ _ _

/-! ## Issues -/

theorem issue (n : SlotIx) : LeadsTo P (execIssue n s) := by
  unfold execIssue
  split
  · split
    · split
      · exact h.complete (h.issueExchange _ _ hs)
      · exact leadsTo_stay hs
    · exact leadsTo_stay hs
  · exact leadsTo_stay hs

theorem generalGrant : LeadsTo P (execGeneralGrant s) := by
  unfold execGeneralGrant
  split
  · exact h.complete (h.issueExchange _ _ hs)
  · exact leadsTo_stay hs

theorem reserveGrant (l : CtrlIx) : LeadsTo P (execReserveGrant l s) := by
  unfold execReserveGrant
  split
  · split
    · exact h.complete (h.issueExchange _ _ hs)
    · exact leadsTo_stay hs
  · exact leadsTo_stay hs

theorem overtakingIssue (n : SlotIx) : LeadsTo P (execOvertakingIssue n s) := by
  unfold execOvertakingIssue
  split
  · split
    · exact h.complete (h.issueExchange _ _ hs)
    · exact leadsTo_stay hs
  · exact leadsTo_stay hs

/-! ## Frames that leave -/

theorem slotLinkSend (n : SlotIx) : LeadsTo P (execSlotLinkSend n s) := by
  unfold execSlotLinkSend
  split
  · split
    · exact h.complete_of_core_eq hs (core_onSlot_onLink ..)
    · split
      · exact h.complete_of_core_eq hs (core_onSlot_onLink ..)
      · exact leadsTo_stay hs
  · exact leadsTo_stay hs

omit h hs in
theorem lists_clearLost (what : Sending) (b : CtrlBlock) : (b.clearLost what).lists = b.lists := by
  unfold CtrlBlock.clearLost
  split <;> rfl

theorem controllerLinkSend (l : CtrlIx) : LeadsTo P (execControllerLinkSend l s) := by
  unfold execControllerLinkSend
  split
  · split
    · exact h.complete_of_core_eq hs (core_onCtrl (lists_clearLost _ _))
    · split
      · exact h.complete_of_core_eq hs (core_onCtrl_onLink ..)
      · exact leadsTo_stay hs
  · exact leadsTo_stay hs

omit h hs in
theorem core_onSlot_sent (n : SlotIx) : (s.onSlot n (·.sent)).core = s.core := core_onSlot rfl

theorem issueSent (n : SlotIx) : LeadsTo P (execIssueSent n s) := by
  unfold execIssueSent
  split
  · exact h.complete (h.resolveWaiting (h.markSent _ (h.core (core_onSlot_sent n) hs)))
  · exact leadsTo_stay hs

theorem cancelSent (n : SlotIx) : LeadsTo P (execCancelSent n s) := by
  unfold execCancelSent
  split
  · exact h.complete_of_core_eq hs (core_onSlot_sent n)
  · exact leadsTo_stay hs

theorem keepSent (n : SlotIx) : LeadsTo P (execKeepSent n s) := by
  unfold execKeepSent
  split
  · exact h.complete_of_core_eq hs (core_onSlot_sent n)
  · exact leadsTo_stay hs

theorem creditSent (k : LinkId) : LeadsTo P (execCreditSent k s) := by
  unfold execCreditSent
  split
  · exact h.complete_of_core_eq hs (core_onLink ..)
  · exact leadsTo_stay hs

theorem replySent (l : CtrlIx) : LeadsTo P (execReplySent l s) := by
  unfold execReplySent
  split
  · exact h.complete_of_core_eq hs (core_onCtrl rfl)
  · exact leadsTo_stay hs

theorem noticeSent (l : CtrlIx) : LeadsTo P (execNoticeSent l s) := by
  unfold execNoticeSent
  split
  · exact h.complete_of_core_eq hs (core_onCtrl rfl)
  · exact leadsTo_stay hs

theorem execRespSent (l : CtrlIx) : LeadsTo P (execRespSent l s) := by
  unfold Machine.execRespSent
  split
  · exact h.complete (h.respSent l hs)
  · exact leadsTo_stay hs

/-! ## Frames of a card -/

theorem park (n : SlotIx) : LeadsTo P (execPark n s) := by
  unfold execPark
  split
  · exact h.complete (h.takePark n _ (h.core (core_tookSlotFrame s n) hs))
  · exact leadsTo_stay hs

theorem done (n : SlotIx) : LeadsTo P (execDone n s) := by
  have htook := h.core (core_tookSlotFrame s n) hs
  unfold execDone
  split
  · dsimp only
    split
    · exact h.complete (h.arise htook _)
    · exact h.complete (h.takeDone n _ htook)
  · exact leadsTo_stay hs

theorem fault (n : SlotIx) : LeadsTo P (execFault n s) := by
  unfold execFault
  split
  · exact h.complete (h.arise (h.core (core_tookSlotFrame s n) hs) _)
  · exact leadsTo_stay hs

/-! ## Expiries -/

theorem deadlineExpiry (i : XtIx) : LeadsTo P (execDeadlineExpiry i s) := by
  unfold execDeadlineExpiry
  split
  · exact h.atExpiry hs _ fun hu => h.arise hu _
  · exact leadsTo_stay hs

theorem orphanExpiry (n : SlotIx) (t : RelayTag) : LeadsTo P (execOrphanExpiry n t s) := by
  unfold execOrphanExpiry
  split
  · split
    · exact leadsTo_stay hs
    · exact h.atExpiry hs _ fun hu => h.arise hu _
  · exact leadsTo_stay hs

theorem leaseExpiry (n : SlotIx) : LeadsTo P (execLeaseExpiry n s) := by
  unfold execLeaseExpiry
  split
  · exact h.atExpiry hs _ (h.revokeLease n)
  · exact leadsTo_stay hs

theorem acknowledgeWindowExpiry (n : SlotIx) : LeadsTo P (execAcknowledgeWindowExpiry n s) := by
  unfold execAcknowledgeWindowExpiry
  split
  · exact h.atExpiry hs _ (h.escalate n)
  · exact leadsTo_stay hs

theorem pulseEnd (n : SlotIx) : LeadsTo P (execPulseEnd n s) := by
  unfold execPulseEnd
  split
  next hresetting => exact h.atExpiry hs _ fun hu => h.endPulse hu hresetting
  next => exact leadsTo_stay hs

/-! ## Every step -/

theorem exec (c : Instr) : LeadsTo P (exec c s) := by
  cases c with
  | hardwareReset strap => exact h.hardwareReset strap
  | lineLock k => exact h.lineLock hs k
  | lineUnlock k => exact h.lineUnlock hs k
  | lineLost k => exact h.execLineLost hs k
  | creditStall k => exact h.creditStall hs k
  | hello k frame => exact h.received hs k frame
  | frameReceived k frame => exact h.received hs k frame
  | credit k count => exact h.frameArrives hs k _
  | cmdOffered l => exact h.cmdOffered hs l
  | cmd => exact h.cmd hs
  | abort l => exact h.abort hs l
  | take l => exact h.resvRequest hs l .take fun tag n => h.takeTake l tag n
  | renew l => exact h.resvRequest hs l .renew fun tag n => h.takeRenew l tag n
  | drop l => exact h.resvRequest hs l .drop fun tag n => h.takeDrop l tag n
  | readIdent l => exact h.readIdent hs l
  | readEntry l => exact h.readEntry hs l
  | readSlot l => exact h.readSlot hs l
  | readExchange l => exact h.readExchange hs l
  | readStore l => exact h.readStore hs l
  | writeEntry l => exact h.writeEntry hs l
  | revert l => exact h.revert hs l
  | activate l => exact h.activate hs l
  | noticeAck l => exact h.noticeAck hs l
  | slotClear l => exact h.slotClear hs l
  | slotReset l => exact h.slotReset hs l
  | relayRestart l => exact h.relayRestart hs l
  | mgmtUnknownRequest l => exact h.mgmtUnknownRequest hs l
  | issue n => exact h.issue hs n
  | generalGrant => exact h.generalGrant hs
  | reserveGrant l => exact h.reserveGrant hs l
  | overtakingIssue n => exact h.overtakingIssue hs n
  | slotLinkSend n => exact h.slotLinkSend hs n
  | issueSent n => exact h.issueSent hs n
  | cancelSent n => exact h.cancelSent hs n
  | keepSent n => exact h.keepSent hs n
  | creditSent k => exact h.creditSent hs k
  | park n => exact h.park hs n
  | done n => exact h.done hs n
  | fault n => exact h.fault hs n
  | deadlineExpiry i => exact h.deadlineExpiry hs i
  | orphanExpiry n t => exact h.orphanExpiry hs n t
  | leaseExpiry n => exact h.leaseExpiry hs n
  | acknowledgeWindowExpiry n => exact h.acknowledgeWindowExpiry hs n
  | pulseEnd n => exact h.pulseEnd hs n
  | controllerLinkSend l => exact h.controllerLinkSend hs l
  | replySent l => exact h.replySent hs l
  | noticeSent l => exact h.noticeSent hs l
  | respSent l => exact h.execRespSent hs l

/-- A step keeps what the operations keep. -/
theorem step {t : State} (hstep : step s = .next t) : P t := by
  unfold Machine.step at hstep
  split at hstep
  next c rest _ => exact h.exec (h.core (s := s) (t := { s with pending := rest }) rfl hs) c t hstep
  next =>
    split at hstep
    next c _ => exact h.exec hs c t hstep
    next =>
      cases hstep
      exact h.core (core_atTime ..) hs

end KeptByOperations

end Kept

end Sys2Proof.Machine
end

section
/-! PROOFS. The changes that ease a slot's reservation (Section 7, R109, R110): no link gains the hold of the slot, no
exchange becomes QUEUED there, and those that stay QUEUED keep their places. All operations but grants, hand-overs and
admissions are of this kind. -/

namespace Sys2Proof.Machine

open Sys2Proof

/-! ## Records in order (R109) -/

theorem reservation_ok_iff {r : Reservation} : r.ok = true ↔ r.waiting.Nodup
    ∧ (∀ h, r.holder = some h → h ∉ r.waiting) ∧ (r.holder = none → r.waiting = [] ∧ r.lease = none) := by
  obtain ⟨holder, lease, waiting⟩ := r
  cases holder <;> simp [Reservation.ok]

/-- The record of a slot that a link holds, whatever its lease. -/
theorem reservation_ok_of_holder {h : CtrlIx} {lease : Option Nat} {ws : List CtrlIx} (hnodup : ws.Nodup)
    (hh : h ∉ ws) : Reservation.ok ⟨some h, lease, ws⟩ = true :=
  reservation_ok_iff.mpr ⟨hnodup, fun h' he => Option.some.inj he ▸ hh, fun he => by cases he⟩

/-! ## Easing a slot -/

/-- From s to t the record of slot n stays in order, a holder stays or is lost, and the exchanges QUEUED at the slot
are of those before, in their places. -/
structure State.Eases (n : SlotIx) (s t : State) : Prop where
  record : (s.slot n).resv.ok = true → (t.slot n).resv.ok = true
  holder : ∀ h, (t.slot n).resv.holder = some h → (s.slot n).resv.holder = some h
  queued : ∀ i x, t.exchange i = some x → x.isQueued = true → x.id.slot = n →
    s.exchange i = some x ∧ (i ∈ (s.slot n).queue → i ∈ (t.slot n).queue)

section Eases

variable {n : SlotIx}

theorem eases_of_same {s t : State} (hx : ∀ i, t.exchange i = s.exchange i)
    (hresv : (t.slot n).resv = (s.slot n).resv) (hqueue : (t.slot n).queue = (s.slot n).queue) : s.Eases n t where
  record := fun h => by rwa [hresv]
  holder := fun h hh => by rwa [← hresv]
  queued := fun i x hi _ _ => ⟨by rwa [← hx], fun hm => by rwa [hqueue]⟩

theorem eases_refl (s : State) : s.Eases n s := eases_of_same (fun _ => rfl) rfl rfl

theorem eases_trans {s t u : State} (h : s.Eases n t) (h' : t.Eases n u) : s.Eases n u where
  record := fun hr => h'.record (h.record hr)
  holder := fun l hl => h.holder l (h'.holder l hl)
  queued := fun i x hx hq hn => by
    obtain ⟨hxt, hqueue'⟩ := h'.queued i x hx hq hn
    obtain ⟨hxs, hqueue⟩ := h.queued i x hxt hq hn
    exact ⟨hxs, fun hi => hqueue' (hqueue hi)⟩

theorem eases_foldl {β : Type} {f : State → β → State} (h : ∀ u b, State.Eases n u (f u b)) (bs : List β)
    (s : State) : s.Eases n (bs.foldl f s) :=
  List.foldlRecOn bs f (eases_refl s) fun u hu b _ => eases_trans hu (h u b)

theorem eases_of_core_eq {s t : State} (h : t.core = s.core) : s.Eases n t :=
  eases_of_same (exchange_of_core_eq h) (resv_of_core_eq h n) (queue_of_core_eq h n)

theorem eases_onCtrl (s : State) (l : CtrlIx) (f : CtrlBlock → CtrlBlock) : s.Eases n (s.onCtrl l f) :=
  eases_of_same (fun _ => rfl) rfl rfl

/-- A change of a slot that leaves its record and its queue alone. -/
theorem eases_onSlot {s : State} {m : SlotIx} {f : SlotBlock → SlotBlock}
    (hresv : (f (s.slot m)).resv = (s.slot m).resv) (hqueue : (f (s.slot m)).queue = (s.slot m).queue) :
    s.Eases n (s.onSlot m f) := by
  refine eases_of_same (fun _ => rfl) ?_ ?_
  all_goals
    rw [slot_onSlot]
    split
    next h => subst h; assumption
    next => rfl

theorem eases_setSlotState (s : State) (m : SlotIx) (st : SlotState) : s.Eases n (s.setSlotState m st) :=
  eases_onSlot rfl rfl

theorem eases_removeOrphan (s : State) (m : SlotIx) (t : RelayTag) : s.Eases n (s.removeOrphan m t) :=
  eases_trans (eases_onSlot rfl rfl) (eases_of_core_eq (core_withdrawSend ..))

/-- A change of a record that keeps it in order and gives the slot to nobody. -/
theorem eases_onResv {s : State} {m : SlotIx} {f : Reservation → Reservation}
    (hok : (s.slot m).resv.ok = true → (f (s.slot m).resv).ok = true)
    (hholder : ∀ h, (f (s.slot m).resv).holder = some h → (s.slot m).resv.holder = some h) :
    s.Eases n (s.onResv m f) := by
  by_cases hm : m = n
  · subst hm
    refine { record := ?_, holder := ?_, queued := fun i x hx _ _ => ⟨hx, fun hi => ?_⟩ }
    · rwa [resv_onResv_self]
    · rwa [resv_onResv_self]
    · rwa [State.onResv, slot_onSlot_self]
  · exact eases_of_same (fun _ => rfl) (resv_onResv_ne s f (Ne.symm hm)) (by rw [State.onResv, slot_onSlot_ne _ _ hm])

theorem eases_onResv_ne (s : State) {m : SlotIx} (f : Reservation → Reservation) (h : m ≠ n) :
    s.Eases n (s.onResv m f) :=
  eases_of_same (fun _ => rfl) (resv_onResv_ne s f h.symm) (by rw [State.onResv, slot_onSlot_ne _ _ h])

theorem eases_clearReservation (s : State) (m : SlotIx) (cause : NoticeCause) :
    s.Eases n (s.clearReservation m cause) := by
  rw [clearReservation_eq]
  have htold : s.Eases n ((s.tellHolder m cause).tellWaiters m cause (s.slot m).resv.waiting) := by
    refine eases_trans (t := s.tellHolder m cause) ?_ ?_
    · unfold State.tellHolder
      split
      · exact eases_of_core_eq (core_notify ..)
      · exact eases_refl s
    · exact eases_foldl (fun u l => eases_of_core_eq (core_notify ..)) _ _
  exact eases_trans htold (eases_onResv (fun _ => rfl) fun h hh => by cases hh)

/-! ## Exchanges that leave their Slot Queue -/

/-- The state u is s with exchange i out of its Slot Queue; the entries, the records and the places of the other
exchanges are the same. -/
structure State.Unqueues (i : XtIx) (s u : State) : Prop where
  entries : u.entries = s.entries
  resv : ∀ n, (u.slot n).resv = (s.slot n).resv
  queue : ∀ n j, j ≠ i → j ∈ (s.slot n).queue → j ∈ (u.slot n).queue

theorem unqueues_refl (s : State) (i : XtIx) : s.Unqueues i s := ⟨rfl, fun _ => rfl, fun _ _ _ h => h⟩

theorem unqueues_of_core_eq {s u v : State} {i : XtIx} (h : s.Unqueues i u) (hv : v.core = u.core) :
    s.Unqueues i v where
  entries := (entries_of_core_eq hv).trans h.entries
  resv := fun n => (resv_of_core_eq hv n).trans (h.resv n)
  queue := fun n j hj hm => by
    rw [queue_of_core_eq hv n]
    exact h.queue n j hj hm

theorem mem_filter_ne {j i : XtIx} {q : List XtIx} (hj : j ≠ i) (h : j ∈ q) : j ∈ q.filter (· != i) :=
  List.mem_filter.mpr ⟨h, bne_iff_ne.mpr hj⟩

theorem unqueues_leaveSlotQueue (s : State) (m : SlotIx) (i : XtIx) : s.Unqueues i (s.leaveSlotQueue m i) := by
  refine ⟨rfl, fun n => ?_, fun n j hj hm => ?_⟩
  all_goals
    rw [State.leaveSlotQueue, slot_onSlot]
    split
  · next h => exact h ▸ rfl
  · rfl
  · next h => exact mem_filter_ne hj (h ▸ hm)
  · exact hm

theorem core_close (b : SlotBlock) (i : XtIx) (t : RelayTag) :
    (b.close i t).core = { b with queue := b.queue.filter (· != i) }.core := by
  rw [SlotBlock.close, core_slot_withdraw, core_slot_withdraw]

theorem unqueues_closeSlotSide (s : State) (i : XtIx) (x : Exchange) (kept : Nat) (o : Option Position) :
    s.Unqueues i (s.closeSlotSide i x kept o) := by
  have hresv : ∀ b : SlotBlock, (b.close i (s.relayTag i)).resv = b.resv := fun b => by
    rw [← resv_core, core_close, resv_core]
  have hqueue : ∀ b : SlotBlock, (b.close i (s.relayTag i)).queue = b.queue.filter (· != i) := fun b => by
    rw [← queue_core, core_close, queue_core]
  refine ⟨entries_closeSlotSide .., fun n => ?_, fun n j hj hm => ?_⟩
  all_goals
    rw [slot_closeSlotSide]
    split
  · exact hresv _
  · rfl
  · exact (hqueue _).symm ▸ mem_filter_ne hj hm
  · exact hm

/-- An exchange that has left its Slot Queue is live in another state, or its entry is FREE. -/
theorem eases_setEntry_of_unqueues {s u : State} {i : XtIx} {e : Entry} (h : s.Unqueues i u)
    (he : ∀ x, e.live = some x → x.isQueued = false) : s.Eases n (u.setEntry i e) := by
  refine { record := fun hr => ?_, holder := fun l hl => ?_, queued := fun j x hx hq hn => ?_ }
  · rwa [slot_setEntry, h.resv]
  · rwa [slot_setEntry, h.resv] at hl
  · by_cases hj : j = i
    · subst hj
      rw [exchange_setEntry_self] at hx
      rw [he x hx] at hq
      cases hq
    · rw [exchange_setEntry_ne _ _ (Ne.symm hj), State.exchange, State.entry, h.entries] at hx
      exact ⟨hx, h.queue n j hj⟩

theorem eases_setPhase_of_unqueues {s u : State} {i : XtIx} {ph : Phase} (h : s.Unqueues i u)
    (hph : ∀ x : Exchange, (x.withPhase ph).isQueued = false) : s.Eases n (u.setPhase i ph) := by
  rcases exchange_eq_none_or_some u i with hx | ⟨x, hx⟩
  · have hsame : u.setPhase i ph = u.setEntry i (u.entry i) := by
      simp [State.setPhase, hx, State.setEntry, State.entry]
    rw [hsame]
    exact eases_setEntry_of_unqueues h fun y hy => by
      rw [State.exchange, hy] at hx
      cases hx
  · rw [setPhase_of_exchange hx]
    exact eases_setEntry_of_unqueues h fun y hy => Option.some.inj hy ▸ hph x

theorem eases_setPhase (s : State) (i : XtIx) {ph : Phase} (hph : ∀ x : Exchange, (x.withPhase ph).isQueued = false) :
    s.Eases n (s.setPhase i ph) := eases_setPhase_of_unqueues (unqueues_refl s i) hph

theorem eases_release_of_unqueues {s u : State} {i : XtIx} (h : s.Unqueues i u) (l : CtrlIx) (r : Response) :
    s.Eases n (u.release l i r) :=
  eases_trans (eases_setPhase_of_unqueues h fun _ => rfl) (eases_onCtrl ..)

/-! ## Endings (R15, R79, R80) -/

theorem eases_releaseHeld (s : State) (l : CtrlIx) (i : XtIx) : s.Eases n (s.releaseHeld l i) := by
  unfold State.releaseHeld
  split
  · split
    · exact eases_release_of_unqueues (unqueues_refl s i) l _
    · exact eases_refl s
  · exact eases_refl s

theorem eases_cascade (s : State) (l : CtrlIx) : s.Eases n (s.cascade l) := by
  rw [cascade_eq_releaseAll]
  exact eases_trans (eases_onCtrl ..) (eases_foldl (fun u i => eases_releaseHeld u l i) _ _)

theorem eases_handToOrderUnit_of_unqueues {s u : State} {i : XtIx} (h : s.Unqueues i u) (x : Exchange)
    (r : Response) : s.Eases n (u.handToOrderUnit i x r) := by
  have hrelease : s.Eases n (u.release x.id.link i r) := eases_release_of_unqueues h _ r
  unfold State.handToOrderUnit
  dsimp only
  split
  · split
    · exact eases_trans (eases_trans hrelease (eases_onCtrl ..)) (eases_cascade ..)
    · exact eases_setPhase_of_unqueues h fun _ => rfl
  · exact hrelease

theorem eases_endExchange (s : State) (i : XtIx) (r : Response) (orphan : Bool) :
    s.Eases n (s.endExchange i r orphan) := by
  unfold State.endExchange
  split
  next => exact eases_refl s
  next x _ =>
    refine eases_handToOrderUnit_of_unqueues ?_ x r
    cases orphan with
    | true => exact unqueues_closeSlotSide ..
    | false => exact unqueues_of_core_eq (unqueues_closeSlotSide ..) (core_withdrawSend ..)

theorem eases_freeEntry (s : State) (i : XtIx) (x : Exchange) (o : Option Position) :
    s.Eases n (s.freeEntry i x o) := by
  have hclosed := unqueues_closeSlotSide s i x 0 o
  exact eases_setEntry_of_unqueues ⟨hclosed.entries, hclosed.resv, hclosed.queue⟩ fun y hy => by cases hy

theorem eases_preempt (s : State) (m : SlotIx) (l : CtrlIx) : s.Eases n (s.preempt m l) := by
  refine eases_foldl (fun u i => ?_) _ s
  unfold State.preemptOne
  split
  · split
    · exact eases_endExchange ..
    · exact eases_refl u
  · exact eases_refl u

/-! ## Issues, frames of a card, ABORT and expiries -/

theorem slot_takeResp (s : State) (l : CtrlIx) (pool : Pool) (k : Nat) (m : SlotIx) :
    (s.takeResp l pool k).slot m = s.slot m := by
  cases pool <;> rfl

theorem eases_issueExchange (s : State) (i : XtIx) (pool : Pool) : s.Eases n (s.issueExchange i pool) := by
  unfold State.issueExchange
  split
  next x _ =>
    split
    next c _ =>
      have hleft := unqueues_leaveSlotQueue s x.id.slot i
      have htaken : s.Unqueues i ((s.leaveSlotQueue x.id.slot i).takeResp x.id.link pool x.need) :=
        ⟨(entries_takeResp ..).trans hleft.entries, fun n => by rw [slot_takeResp, hleft.resv], fun n j hj hm => by
          rw [slot_takeResp]
          exact hleft.queue n j hj hm⟩
      exact eases_trans (eases_setPhase_of_unqueues htaken fun _ => rfl) (eases_of_core_eq (core_queueSend ..))
    next => exact eases_refl s
  next => exact eases_refl s

theorem eases_markSent (s : State) (i : XtIx) : s.Eases n (s.markSent i) := by
  unfold State.markSent
  split
  · split
    · exact eases_setPhase_of_unqueues ⟨rfl, fun _ => rfl, fun _ _ _ hm => hm⟩ fun _ => rfl
    · exact eases_refl s
  · exact eases_refl s

theorem eases_respSent (s : State) (l : CtrlIx) : s.Eases n (s.respSent l) := by
  have hended : s.Eases n (s.onCtrl l (·.onLink (·.endSend))) := eases_onCtrl ..
  unfold State.respSent
  dsimp only
  split
  · split
    · exact eases_trans hended (eases_freeEntry ..)
    · exact hended
  · exact hended

theorem eases_takePark (s : State) (m : SlotIx) (t : RelayTag) : s.Eases n (s.takePark m t) := by
  by_cases hsent : ∃ x sp d, s.exchange t.index = some x ∧ x.phase = .active none sp d ∧ s.tagNames m t x = true
  case neg =>
    rw [takePark_discarded fun x sp d hx hp => Bool.eq_false_iff.mpr fun hn => hsent ⟨x, sp, d, hx, hp, hn⟩]
    exact eases_refl s
  obtain ⟨x, sp, d, hx, hp, hn⟩ := hsent
  rw [takePark_of_sent hx hp hn]
  split
  · exact eases_trans (eases_setPhase s _ fun _ => rfl) (eases_of_core_eq (core_withdrawSend ..))
  · split
    · exact eases_refl s
    · exact eases_of_core_eq (core_queueSend ..)

theorem eases_takeDone (s : State) (m : SlotIx) (d : DoneFrame) : s.Eases n (s.takeDone m d) := by
  unfold State.takeDone
  split
  · split
    · split <;> exact eases_endExchange ..
    · exact eases_refl s
  · split
    · exact eases_removeOrphan ..
    · exact eases_refl s

theorem eases_toCancelling (s : State) (i : XtIx) (x : Exchange) (sp : RespSpace) (d : Nat) (former : Position) :
    s.Eases n (s.toCancelling i x sp d former) :=
  eases_trans (eases_setPhase s i fun _ => rfl)
    (eases_of_core_eq ((core_withdrawSend ..).trans (core_queueSend ..)))

theorem eases_abortEntry (s : State) (i : XtIx) : s.Eases n (s.abortEntry i).1 := by
  unfold State.abortEntry
  split
  next => exact eases_refl s
  next x _ =>
    split
    next => exact eases_endExchange ..
    next => exact eases_endExchange ..
    next => exact eases_toCancelling ..
    next => exact eases_toCancelling ..
    next => exact eases_refl s
    next => exact eases_refl s
    next => exact eases_refl s

theorem eases_takeDeadline (s : State) (i : XtIx) : s.Eases n (s.takeDeadline i) := by
  unfold State.takeDeadline
  split
  next => exact eases_refl s
  next x _ =>
    have hcancel : s.Eases n (s.queueCancel (s.relayTag i) x) := eases_of_core_eq (core_queueCancel ..)
    split
    · exact eases_trans hcancel (eases_endExchange ..)
    · exact eases_trans hcancel (eases_endExchange ..)
    · exact eases_endExchange ..
    · exact eases_refl s
    · exact eases_refl s
    · exact eases_refl s

/-! ## Slots out of service -/

theorem eases_endForSlot (s : State) (m : SlotIx) (code : RelayCode) (i : XtIx) :
    s.Eases n (s.endForSlot m code i) := by
  unfold State.endForSlot
  split
  · split
    · split
      · exact eases_endExchange ..
      · exact eases_endExchange ..
      · exact eases_endExchange ..
      · exact eases_endExchange ..
      · exact eases_refl s
      · exact eases_refl s
    · exact eases_refl s
  · exact eases_refl s

theorem eases_endSlotWork (s : State) (m : SlotIx) (code : RelayCode) : s.Eases n (s.endSlotWork m code) :=
  eases_trans (eases_foldl (fun u i => eases_endForSlot u m code i) _ s) (eases_onSlot rfl rfl)

theorem eases_faultSlot (s : State) (m : SlotIx) (cause : LastFault) : s.Eases n (s.faultSlot m cause) := by
  unfold State.faultSlot
  split
  · exact eases_trans (eases_trans (eases_endSlotWork ..) (eases_onSlot rfl rfl))
      (eases_of_core_eq (core_notifyManager ..))
  · exact eases_refl s

theorem eases_takeOrphanExpiry (s : State) (m : SlotIx) (t : RelayTag) : s.Eases n (s.takeOrphanExpiry m t) := by
  unfold State.takeOrphanExpiry
  split
  · exact eases_trans (eases_removeOrphan ..) (eases_faultSlot ..)
  · exact eases_refl s

theorem eases_slotLinkUp (s : State) (m : SlotIx) : s.Eases n (s.slotLinkUp m) := by
  unfold State.slotLinkUp
  split
  · exact eases_trans (eases_setSlotState ..) (eases_of_core_eq (core_notifyManager ..))
  · exact eases_refl s

theorem eases_escalate (s : State) (m : SlotIx) : s.Eases n (s.escalate m) :=
  eases_trans (eases_trans (eases_setSlotState ..) (eases_of_core_eq (core_notifyManager ..)))
    (eases_clearReservation ..)

theorem eases_resetSlot (s : State) (m : SlotIx) : s.Eases n (s.resetSlot m) := by
  have hpulse : ∀ u : State, u.Eases n ((u.startPulse m).clearReservation m .slotReset) := fun u =>
    eases_trans (eases_setSlotState ..) (eases_clearReservation ..)
  unfold State.resetSlot
  split
  · exact eases_trans (eases_endSlotWork ..) (hpulse _)
  · exact hpulse s

theorem eases_acknowledge (s : State) (id : Byte) (m : SlotIx) : s.Eases n (s.acknowledge id m) := by
  unfold State.acknowledge
  split
  · exact eases_setSlotState ..
  · exact eases_refl s

theorem eases_clearSlot (s : State) (m : SlotIx) : s.Eases n (s.clearSlot m) := by
  unfold State.clearSlot
  split
  · exact eases_trans (eases_setSlotState ..) (eases_of_core_eq (core_notifyManager ..))
  · exact eases_setSlotState ..

/-! ## Teardown, RELAY_RESTART, ACTIVATE -/

theorem eases_tearDownOne (s : State) (l : CtrlIx) (i : XtIx) : s.Eases n (s.tearDownOne l i) := by
  unfold State.tearDownOne
  split
  · split
    · exact eases_trans (eases_of_core_eq (core_queueCancel ..)) (eases_freeEntry ..)
    · exact eases_refl s
  · exact eases_refl s

/-- All of a departure before the departed link leaves the records (R105, R168). -/
theorem eases_tornDown (s : State) (l : CtrlIx) : s.Eases n (s.tornDown l) :=
  eases_trans (eases_trans (eases_trans (eases_of_core_eq (core_withWaiting ..)) (eases_onCtrl ..))
    (eases_foldl (fun u i => eases_tearDownOne u l i) _ _)) (eases_onCtrl ..)

theorem eases_restartOne (s : State) (i : XtIx) : s.Eases n (s.restartOne i) := by
  have hrestarted : ∀ x, s.Eases n (((s.queueCancel (s.relayTag i) x).closeSlotSide i x 0 x.orphans).release
      x.id.link i (.relay .restarted)) := fun x =>
    eases_trans (eases_of_core_eq (core_queueCancel ..))
      (eases_release_of_unqueues (unqueues_closeSlotSide ..) _ _)
  unfold State.restartOne
  split
  next => exact eases_refl s
  next x _ =>
    split
    next => exact eases_refl s
    next => exact eases_release_of_unqueues (unqueues_refl s i) _ _
    next => exact hrestarted x
    next => exact hrestarted x
    next => exact hrestarted x
    next => exact hrestarted x

theorem eases_restartAll (s : State) : s.Eases n s.restartAll :=
  eases_trans (eases_trans (eases_foldl eases_restartOne _ s) (eases_foldl (fun u l => eases_onCtrl u l _) _ _))
    (eases_foldl (fun u m => eases_clearReservation u m .restart) _ _)

theorem eases_disableSlot (s : State) (old : Bank) (m : SlotIx) : s.Eases n (s.disableSlot old m) := by
  unfold State.disableSlot
  split
  · refine eases_foldl (fun u i => ?_) _ s
    unfold State.disableOne
    split
    · split
      · exact eases_endExchange ..
      · exact eases_refl u
    · exact eases_refl u
  · exact eases_refl s

theorem eases_activateNow (s : State) (m : CtrlIx) : s.Eases n (s.activateNow m) := by
  have hcopied : s.Eases n { s with active := s.staged, epoch := s.epoch + 1 } :=
    eases_of_same (fun _ => rfl) rfl rfl
  exact eases_trans (eases_trans hcopied (eases_foldl (fun u n => eases_disableSlot u s.active n) _ _))
    (eases_foldl (fun u l => eases_of_core_eq (core_announce u m l)) _ _)

end Eases

end Sys2Proof.Machine
end

section
/-! PROOFS. Every step keeps the reservation records in order and the reserved slots free of other links' QUEUED
ACTIONs (Section 7, R109, R110). -/

namespace Sys2Proof.Machine

open Sys2Proof

/-! ## The law of a slot -/

/-- Every exchange QUEUED at slot n stands in its Slot Queue, where a grant finds it. -/
def State.AllWait (s : State) (n : SlotIx) : Prop :=
  ∀ i x, s.exchange i = some x → x.isQueued = true → x.id.slot = n → i ∈ (s.slot n).queue

/-- The record of slot n is in order (R109), its QUEUED exchanges stand in its Slot Queue, and a QUEUED ACTION at it is
of the link that holds it, if one does (R110). -/
structure State.LawfulAt (s : State) (n : SlotIx) : Prop where
  record : (s.slot n).resv.ok = true
  waits : s.AllWait n
  reserved : ∀ i x h, s.exchange i = some x → x.isQueued = true → x.id.slot = n → x.id.cls = .action →
    (s.slot n).resv.holder = some h → x.id.link = h

/-- Every slot is lawful. -/
def State.Lawful (s : State) : Prop := ∀ n, s.LawfulAt n

theorem heldByOther_eq_false_iff {s : State} {l : CtrlIx} {n : SlotIx} :
    s.heldByOther l n = false ↔ ∀ h, (s.slot n).resv.holder = some h → l = h := by
  unfold State.heldByOther
  cases (s.slot n).resv.holder with
  | none => simp
  | some h => simpa using eq_comm

theorem lawful_of_reservationsOk {s : State} (hc : s.collectionsOk) (h : s.reservationsOk) : s.Lawful := by
  obtain ⟨-, hqueues, -⟩ := hc
  obtain ⟨hrecords, hactions⟩ := h
  intro n
  refine ⟨hrecords n, fun i x hx hq hn => ?_, fun i x h hx hq hn ha hh => ?_⟩
  · obtain ⟨-, hmem⟩ := hqueues n
    exact (hmem i).mpr (by simp [State.exchangeIs, hx, hq, hn])
  · have hheld : s.heldByOther x.id.link x.id.slot = false := by
      simpa [State.exchangeIs, hx, hq, ha] using hactions i
    exact heldByOther_eq_false_iff.mp hheld h (hn ▸ hh)

theorem reservationsOk_of_lawful {s : State} (h : s.Lawful) : s.reservationsOk := by
  refine ⟨fun n => (h n).record, fun i => ?_⟩
  rcases exchange_eq_none_or_some s i with hx | ⟨x, hx⟩
  · simp only [State.exchangeIs, hx]
  · simp only [State.exchangeIs, hx, Bool.and_eq_false_iff]
    by_cases hq : x.isQueued = true
    · by_cases ha : x.id.cls = .action
      · exact .inr (heldByOther_eq_false_iff.mpr fun l hl => (h x.id.slot).reserved i x l hx hq rfl ha hl)
      · exact .inl (.inr (beq_eq_false_iff_ne.mpr ha))
    · exact .inl (.inl (Bool.eq_false_iff.mpr hq))

section At

variable {s t : State} {n : SlotIx}

theorem allWait_of_eases (hs : s.AllWait n) (h : s.Eases n t) : t.AllWait n := by
  intro i x hx hq hn
  obtain ⟨hxs, hqueue⟩ := h.queued i x hx hq hn
  exact hqueue (hs i x hxs hq hn)

theorem lawfulAt_of_eases (hs : s.LawfulAt n) (h : s.Eases n t) : t.LawfulAt n where
  record := h.record hs.record
  waits := allWait_of_eases hs.waits h
  reserved := fun i x l hx hq hn ha hl => by
    obtain ⟨hxs, -⟩ := h.queued i x hx hq hn
    exact hs.reserved i x l hxs hq hn ha (h.holder l hl)

/-- A slot without a holder is lawful when its record is in order. -/
theorem lawfulAt_of_no_holder (hw : s.AllWait n) (hr : (s.slot n).resv.ok = true)
    (hh : (s.slot n).resv.holder = none) : s.LawfulAt n :=
  ⟨hr, hw, fun _ _ _ _ _ _ _ hl => by simp [hh] at hl⟩

end At

theorem lawful_of_eases {s t : State} (hs : s.Lawful) (h : ∀ n, s.Eases n t) : t.Lawful := fun n =>
  lawfulAt_of_eases (hs n) (h n)

/-! ## Grants and hand-overs (R112, R118, R119) -/

/-- A grant leaves no QUEUED ACTION but those of the new holder: all that it must end stand in the Slot Queue. -/
theorem lawfulAt_preempt {s : State} {n : SlotIx} {l : CtrlIx} (hw : s.AllWait n)
    (hr : (s.slot n).resv.ok = true) (hh : (s.slot n).resv.holder = some l) : (s.preempt n l).LawfulAt n := by
  have heases : s.Eases n (s.preempt n l) := eases_preempt ..
  refine ⟨heases.record hr, allWait_of_eases hw heases, fun i x h hx hq hn ha hl => ?_⟩
  obtain rfl : l = h := Option.some.inj (hh.symm.trans (heases.holder h hl))
  obtain ⟨hxs, -⟩ := heases.queued i x hx hq hn
  by_contra hother
  have hended := exchange_preemptList_of_preempted (hw i x hxs hq hn) hxs ⟨ha, hother, hq⟩
  rw [← preempt_eq, hx] at hended
  rcases hended with he | he
  all_goals
    rw [Option.some.inj he] at hq
    cases hq

theorem eases_makeHolder_ne (s : State) {n m : SlotIx} (l : CtrlIx) (h : m ≠ n) : s.Eases n (s.makeHolder m l) := by
  rw [makeHolder_eq]
  exact eases_onResv_ne s _ h

theorem resv_makeHolder (s : State) (n : SlotIx) (l : CtrlIx) :
    ((s.makeHolder n l).slot n).resv = ⟨some l, s.leaseExpiryFrom n, (s.slot n).resv.waiting⟩ := by
  rw [makeHolder_eq, resv_onResv_self]

theorem allWait_onResv {s : State} {n : SlotIx} (h : s.AllWait n) (f : Reservation → Reservation) :
    (s.onResv n f).AllWait n := by
  intro i x hx hq hn
  rw [State.onResv, slot_onSlot_self]
  exact h i x hx hq hn

theorem allWait_makeHolder {s : State} {n : SlotIx} (h : s.AllWait n) (l : CtrlIx) : (s.makeHolder n l).AllWait n := by
  rw [makeHolder_eq]
  exact allWait_onResv h _

theorem lawfulAt_grantTo {s : State} {n : SlotIx} {w : CtrlIx} {rest : List CtrlIx} (hs : s.AllWait n)
    (hnodup : (w :: rest).Nodup) : (s.grantTo n w rest).LawfulAt n := by
  obtain ⟨hw, hrest⟩ := List.nodup_cons.mp hnodup
  have hresv := resv_makeHolder (s.onResv n fun r => { r with waiting := rest }) n w
  rw [resv_onResv_self] at hresv
  refine lawfulAt_preempt (allWait_of_eases (allWait_makeHolder (allWait_onResv hs _) w)
    (eases_of_core_eq (core_notify ..))) ?_ ?_
  · rw [slot_notify, hresv]
    exact reservation_ok_of_holder hrest hw
  · rw [slot_notify, hresv]

theorem eases_grantTo_ne (s : State) {n m : SlotIx} (w : CtrlIx) (rest : List CtrlIx) (h : m ≠ n) :
    s.Eases n (s.grantTo m w rest) :=
  eases_trans (eases_trans (eases_trans (eases_onResv_ne s _ h) (eases_makeHolder_ne _ w h))
    (eases_of_core_eq (core_notify ..))) (eases_preempt ..)

/-- The waiters of a slot without a holder and without a lease are taken from the front. -/
theorem lawfulAt_handOverTo {s : State} {n : SlotIx} {ws : List CtrlIx} (hs : s.AllWait n)
    (hholder : (s.slot n).resv.holder = none) (hlease : (s.slot n).resv.lease = none) (hnodup : ws.Nodup) :
    (s.handOverTo n ws).LawfulAt n := by
  induction ws generalizing s with
  | nil =>
    rw [handOverTo_nil]
    refine lawfulAt_of_no_holder (allWait_onResv hs _) ?_ ?_
    · simp [resv_onResv_self, reservation_ok_iff, hholder, hlease]
    · rw [resv_onResv_self, hholder]
  | cons w ws ih =>
    by_cases hfull : s.access w n = .full
    · rw [handOverTo_of_access hfull]
      exact lawfulAt_grantTo hs hnodup
    · rw [handOverTo_of_no_access hfull]
      exact ih (allWait_of_eases hs (eases_of_core_eq (core_notify ..))) hholder hlease hnodup.of_cons

theorem eases_handOverTo_ne (s : State) {n m : SlotIx} (ws : List CtrlIx) (h : m ≠ n) :
    s.Eases n (s.handOverTo m ws) := by
  induction ws generalizing s with
  | nil => exact eases_onResv_ne s _ h
  | cons w ws ih =>
    by_cases hfull : s.access w m = .full
    · rw [handOverTo_of_access hfull]
      exact eases_grantTo_ne s w ws h
    · rw [handOverTo_of_no_access hfull]
      exact eases_trans (eases_of_core_eq (core_notify ..)) (ih _)

theorem lawful_handOver {s : State} (hs : s.Lawful) (n : SlotIx) : (s.handOver n).Lawful := by
  intro m
  rw [handOver_eq]
  by_cases hm : n = m
  · subst hm
    obtain ⟨hnodup, -, -⟩ := reservation_ok_iff.mp (hs n).record
    exact lawfulAt_handOverTo (allWait_onResv (hs n).waits _) (by rw [State.freeSlot, resv_onResv_self])
      (by rw [State.freeSlot, resv_onResv_self]) hnodup
  · exact lawfulAt_of_eases (hs m) (eases_trans (eases_onResv_ne s _ hm) (eases_handOverTo_ne _ _ hm))

/-! ## The requests and what else hands a slot over -/

/-- A link leaves the waiting list of a slot (R114, R121). -/
theorem eases_leaveWaiting (s : State) {n : SlotIx} (m : SlotIx) (l : CtrlIx) :
    s.Eases n (s.onResv m fun r => { r with waiting := r.waiting.filter (· != l) }) := by
  refine eases_onResv (fun hok => ?_) fun _ hh => hh
  obtain ⟨hnodup, hholder, hfree⟩ := reservation_ok_iff.mp hok
  refine reservation_ok_iff.mpr ⟨hnodup.filter _, fun h hh hm => hholder h hh (List.mem_of_mem_filter hm),
    fun hh => ?_⟩
  obtain ⟨hwaiting, hlease⟩ := hfree hh
  exact ⟨by rw [hwaiting, List.filter_nil], hlease⟩

/-- The lease of a held slot starts again (R115). -/
theorem eases_startLease {s : State} {m : SlotIx} {l : CtrlIx} (n : SlotIx)
    (h : (s.slot m).resv.holder = some l) : s.Eases n (s.startLease m) := by
  refine eases_onResv (fun hok => ?_) fun _ hh => hh
  obtain ⟨hnodup, hholder, -⟩ := reservation_ok_iff.mp hok
  exact reservation_ok_iff.mpr ⟨hnodup, hholder, fun hh => by simp [h] at hh⟩

/-- A link joins the waiting list of a slot that another link holds (R112). -/
theorem eases_joinWaiting {s : State} {m : SlotIx} {h l : CtrlIx} (n : SlotIx)
    (hh : (s.slot m).resv.holder = some h) (hne : h ≠ l) (hw : l ∉ (s.slot m).resv.waiting) :
    s.Eases n (s.onResv m fun r => { r with waiting := r.waiting ++ [l] }) := by
  refine eases_onResv (fun hok => ?_) fun _ hh => hh
  obtain ⟨hnodup, hholder, -⟩ := reservation_ok_iff.mp hok
  refine reservation_ok_iff.mpr ⟨?_, fun h' hh' hm => ?_, fun hnone => by simp [hh] at hnone⟩
  · exact List.nodup_append.mpr ⟨hnodup, List.nodup_singleton l, fun a ha b hb => by
      rw [List.mem_singleton.mp hb]
      exact ne_of_mem_of_not_mem ha hw⟩
  · obtain rfl : h = h' := Option.some.inj (hh.symm.trans hh')
    exact (List.mem_append.mp hm).elim (hholder h hh) fun hm => hne (List.mem_singleton.mp hm)

/-- The TAKE that finds a slot without a holder, which nobody waits for (R112, R119). -/
theorem lawful_takeTake_of_free {s : State} (hs : s.Lawful) (l : CtrlIx) (tag : Byte) {n : SlotIx}
    (hholder : (s.slot n).resv.holder = none) :
    (((s.makeHolder n l).answerResv l tag .granted []).preempt n l).Lawful := by
  intro m
  by_cases hm : n = m
  · subst hm
    obtain ⟨-, -, hfree⟩ := reservation_ok_iff.mp (hs n).record
    obtain ⟨hwaiting, -⟩ := hfree hholder
    have hresv : (((s.makeHolder n l).answerResv l tag .granted []).slot n).resv
        = ⟨some l, s.leaseExpiryFrom n, []⟩ := by
      rw [resv_of_core_eq (core_answerResv ..), resv_makeHolder, hwaiting]
    refine lawfulAt_preempt (allWait_of_eases (allWait_makeHolder (hs n).waits l)
      (eases_of_core_eq (core_answerResv ..))) ?_ (by rw [hresv])
    rw [hresv]
    exact reservation_ok_of_holder List.nodup_nil List.not_mem_nil
  · exact lawfulAt_of_eases (hs m) (eases_trans (eases_trans (eases_makeHolder_ne s l hm)
      (eases_of_core_eq (core_answerResv ..))) (eases_preempt ..))

theorem lawful_takeTake {s : State} (hs : s.Lawful) (l : CtrlIx) (tag : Byte) (n : SlotIx) :
    (s.takeTake l tag n).Lawful := by
  have hanswer : ∀ {u : State} r d, (∀ m, s.Eases m u) → (u.answerResv l tag r d).Lawful := fun r d hu =>
    lawful_of_eases hs fun m => eases_trans (hu m) (eases_of_core_eq (core_answerResv ..))
  by_cases hfull : s.access l n = .full
  case neg =>
    rw [takeTake_without_access tag hfull]
    exact hanswer _ _ fun _ => eases_refl s
  cases hholder : (s.slot n).resv.holder with
  | none =>
    rw [takeTake_of_free tag hfull hholder]
    exact lawful_takeTake_of_free hs l tag hholder
  | some h =>
    by_cases hl : h = l
    · rw [takeTake_of_holder tag hfull (hl ▸ hholder)]
      exact hanswer _ _ fun m => eases_startLease m hholder
    · by_cases hw : l ∈ (s.slot n).resv.waiting
      · rw [takeTake_of_waiter tag hfull hholder hl hw]
        exact hanswer _ _ fun _ => eases_refl s
      · rw [takeTake_of_stranger tag hfull hholder hl hw]
        exact hanswer _ _ fun m => eases_joinWaiting m hholder hl hw

theorem lawful_takeRenew {s : State} (hs : s.Lawful) (l : CtrlIx) (tag : Byte) (n : SlotIx) :
    (s.takeRenew l tag n).Lawful := by
  refine lawful_of_eases hs fun m => ?_
  by_cases hholder : (s.slot n).resv.holder = some l
  · rw [takeRenew_of_holder tag hholder]
    exact eases_trans (eases_startLease m hholder) (eases_of_core_eq (core_answerResv ..))
  · rw [takeRenew_of_not_holder tag hholder]
    exact eases_of_core_eq (core_answerResv ..)

theorem lawful_takeDrop {s : State} (hs : s.Lawful) (l : CtrlIx) (tag : Byte) (n : SlotIx) :
    (s.takeDrop l tag n).Lawful := by
  by_cases hholder : (s.slot n).resv.holder = some l
  · rw [takeDrop_of_holder tag hholder]
    exact lawful_handOver (lawful_of_eases hs fun m => eases_of_core_eq (core_answerResv ..)) n
  refine lawful_of_eases hs fun m => ?_
  by_cases hw : l ∈ (s.slot n).resv.waiting
  · rw [takeDrop_of_waiter tag hholder hw]
    exact eases_trans (eases_leaveWaiting s n l) (eases_of_core_eq (core_answerResv ..))
  · rw [takeDrop_of_stranger tag hholder hw]
    exact eases_of_core_eq (core_answerResv ..)

theorem lawful_revokeLease {s : State} (hs : s.Lawful) (n : SlotIx) : (s.revokeLease n).Lawful := by
  unfold State.revokeLease
  split
  · exact lawful_handOver (lawful_of_eases hs fun m => eases_of_core_eq (core_notify ..)) n
  · exact hs

theorem lawful_dropLink {s : State} (hs : s.Lawful) (l : CtrlIx) : (s.dropLink l).Lawful := by
  refine List.foldlRecOn _ _ hs fun u hu n _ => ?_
  have hleft := lawful_of_eases hu fun m => eases_leaveWaiting u (n := m) n l
  unfold State.dropLinkAt
  dsimp only
  split
  · exact lawful_handOver hleft n
  · exact hleft

theorem core_tellDeparture (s : State) (l : CtrlIx) (cause : DepartCause) :
    (s.tellDeparture l cause).core = s.core := by
  have hdown : (s.tellDown l cause).core = s.core := by
    unfold State.tellDown
    exact (core_onCtrl_onLink ..).trans (core_notifyManager ..)
  unfold State.tellDeparture
  dsimp only
  split
  · exact (core_notifyManager ..).trans hdown
  · exact hdown

theorem lawful_departCtrl {s : State} (hs : s.Lawful) (l : CtrlIx) (cause : DepartCause) :
    (s.departCtrl l cause).Lawful := by
  rw [departCtrl_eq]
  exact lawful_of_eases (lawful_dropLink (lawful_of_eases hs fun n => eases_tornDown s l) l)
    fun n => eases_of_core_eq (core_tellDeparture _ l cause)

/-! ## Admission (R33) -/

/-- An admission has passed every check of the table at its slot. -/
theorem passed_of_admissionCheck {s : State} {l : CtrlIx} {c : CmdFrame} {n : SlotIx} {i : XtIx}
    (h : s.admissionCheck l c = .ok (n, i)) : ∀ e ∈ s.tableChecks l c n, e.1 = false := by
  by_cases hlen : 256 < c.payload.length ∨ 256 < c.maxResp
  · cases (admissionCheck_badLength hlen).symm.trans h
  obtain ⟨hpayload, hmax⟩ := not_or.mp hlen
  rw [Nat.not_lt] at hpayload hmax
  cases hslot : slotOfByte c.slotAddr with
  | none => cases (admissionCheck_noSlot hpayload hmax hslot).symm.trans h
  | some m =>
    rw [admissionCheck_eq_firstFailing hpayload hmax hslot] at h
    obtain ⟨hpassed, hplace⟩ := passed_of_firstFailing h
    unfold State.placeAt at hplace
    split at hplace
    next =>
      cases hplace
      exact hpassed
    next => cases hplace

/-- An ACTION is admitted only where no other link holds the slot. -/
theorem not_heldByOther_of_admissionCheck {s : State} {l : CtrlIx} {c : CmdFrame} {n : SlotIx} {i : XtIx}
    (h : s.admissionCheck l c = .ok (n, i)) (ha : c.cls = .action) : s.heldByOther l n = false := by
  have hreserved := passed_of_admissionCheck h (c.cls == .action && (s.slot n).resv.holder.isSome
    && (s.slot n).resv.holder != some l, .reserved) (by simp [State.tableChecks])
  rwa [Bool.and_assoc, ← heldByOther_eq, ha] at hreserved

theorem exchange_admitCmd_self (s : State) (l : CtrlIx) (c : CmdFrame) (n : SlotIx) (i : XtIx) :
    (s.admitCmd l c n i).exchange i = some (s.admittedExchange l c n) := by
  rw [admitCmd_eq]
  exact exchange_setEntry_self ..

theorem exchange_admitCmd_ne (s : State) (l : CtrlIx) (c : CmdFrame) (n : SlotIx) {i j : XtIx} (h : j ≠ i) :
    (s.admitCmd l c n i).exchange j = s.exchange j := by
  rw [admitCmd_eq]
  exact exchange_setEntry_ne _ _ h.symm

/-- An admission touches of the slots only the tail of one Slot Queue (R29). -/
theorem slot_admitCmd (s : State) (l : CtrlIx) (c : CmdFrame) (n m : SlotIx) (i : XtIx) :
    (s.admitCmd l c n i).slot m = if n = m then { s.slot n with queue := (s.slot n).queue ++ [i] } else s.slot m := by
  rw [admitCmd_eq]
  exact slot_onSlot s n m fun b => { b with queue := b.queue ++ [i] }

theorem lawful_admitCmd {s : State} (hs : s.Lawful) {l : CtrlIx} {c : CmdFrame} {n : SlotIx} {i : XtIx}
    (hcheck : s.admissionCheck l c = .ok (n, i)) : (s.admitCmd l c n i).Lawful := by
  intro m
  have hresv : ((s.admitCmd l c n i).slot m).resv = (s.slot m).resv := by
    rw [slot_admitCmd]
    split
    next h => rw [h]
    next => rfl
  have hold : ∀ j ∈ (s.slot m).queue, j ∈ ((s.admitCmd l c n i).slot m).queue := fun j hj => by
    rw [slot_admitCmd]
    split
    next h => exact List.mem_append_left _ (h ▸ hj)
    next => exact hj
  refine ⟨hresv ▸ (hs m).record, fun j x hx hq hn => ?_, fun j x h hx hq hn ha hh => ?_⟩
  · by_cases hj : j = i
    · subst hj
      obtain rfl := Option.some.inj ((exchange_admitCmd_self s l c n j).symm.trans hx)
      obtain rfl : n = m := hn
      rw [slot_admitCmd, if_pos rfl]
      exact List.mem_append_right _ (List.mem_singleton_self j)
    · rw [exchange_admitCmd_ne s l c n hj] at hx
      exact hold j ((hs m).waits j x hx hq hn)
  · rw [hresv] at hh
    by_cases hj : j = i
    · subst hj
      obtain rfl := Option.some.inj ((exchange_admitCmd_self s l c n j).symm.trans hx)
      obtain rfl : n = m := hn
      exact heldByOther_eq_false_iff.mp (not_heldByOther_of_admissionCheck hcheck ha) h hh
    · rw [exchange_admitCmd_ne s l c n hj] at hx
      exact (hs m).reserved j x h hx hq hn ha hh

/-! ## Every step -/

theorem lawful_resetWith (strap : CtrlIx) : (State.resetWith strap).Lawful := by
  have hfree : ∀ i, (State.resetWith strap).exchange i = none := fun i => by
    simp [State.exchange, State.entry, State.resetWith]
  have hresv : ∀ n, ((State.resetWith strap).slot n).resv = Reservation.empty := fun n => by
    simp [State.slot, State.resetWith, SlotBlock.reset]
  intro n
  refine lawfulAt_of_no_holder (fun i x hx => ?_) (by rw [hresv]; rfl) (by rw [hresv]; rfl)
  rw [hfree] at hx
  cases hx

/-- All operations but admissions, requests, lease expiries and departures of Controller Links ease every slot. -/
theorem lawful_keptByOperations : KeptByOperations State.Lawful where
  core := fun h hs => lawful_of_eases hs fun _ => eases_of_core_eq h
  reset := lawful_resetWith
  admitCmd := fun hs hcheck => lawful_admitCmd hs hcheck
  issueExchange := fun i pool hs => lawful_of_eases hs fun _ => eases_issueExchange _ i pool
  markSent := fun i hs => lawful_of_eases hs fun _ => eases_markSent _ i
  respSent := fun l hs => lawful_of_eases hs fun _ => eases_respSent _ l
  takePark := fun n t hs => lawful_of_eases hs fun _ => eases_takePark _ n t
  takeDone := fun n d hs => lawful_of_eases hs fun _ => eases_takeDone _ n d
  abortEntry := fun i hs => lawful_of_eases hs fun _ => eases_abortEntry _ i
  takeDeadline := fun i hs => lawful_of_eases hs fun _ => eases_takeDeadline _ i
  takeOrphanExpiry := fun n t hs => lawful_of_eases hs fun _ => eases_takeOrphanExpiry _ n t
  departCtrl := fun l cause hs => lawful_departCtrl hs l cause
  restartAll := fun hs => lawful_of_eases hs fun _ => eases_restartAll _
  takeTake := fun l tag n hs => lawful_takeTake hs l tag n
  takeRenew := fun l tag n hs => lawful_takeRenew hs l tag n
  takeDrop := fun l tag n hs => lawful_takeDrop hs l tag n
  revokeLease := fun n hs => lawful_revokeLease hs n
  slotLinkUp := fun n hs => lawful_of_eases hs fun _ => eases_slotLinkUp _ n
  faultSlot := fun n cause hs => lawful_of_eases hs fun _ => eases_faultSlot _ n cause
  escalate := fun n hs => lawful_of_eases hs fun _ => eases_escalate _ n
  resetSlot := fun n hs => lawful_of_eases hs fun _ => eases_resetSlot _ n
  endPulse := fun hs _ => lawful_of_eases hs fun _ => eases_setSlotState _ _ _
  acknowledge := fun id n hs => lawful_of_eases hs fun _ => eases_acknowledge _ id n
  clearSlot := fun hs _ => lawful_of_eases hs fun _ => eases_clearSlot _ _
  activateNow := fun m hs => lawful_of_eases hs fun _ => eases_activateNow _ m

/-- Settles O58: the law of every slot, which the Slot Queues of the premise complete, is kept by every operation. -/
theorem stepKeepsReservations : Obligations.StepKeepsReservations := fun _ _ hc h hstep =>
  reservationsOk_of_lawful (lawful_keptByOperations.step (lawful_of_reservationsOk hc h) hstep)

end Sys2Proof.Machine
end

section
/-! PROOFS. The slot requests of the manager and the timers of a slot that is out of service (Section 8, R132 to R136):
NOTICE_ACK, SLOT_CLEAR and SLOT_RESET, the expiry of an acknowledge window and the end of a reset pulse. -/

namespace Sys2Proof.Machine

open Sys2Proof

/-! ## Timers (R133, R134) -/

theorem awaited?_eq_some_iff {st : SlotState} {a : Awaited} : st.awaited? = some a ↔ st = .faulted (some a) := by
  cases st <;> simp [SlotState.awaited?]

theorem execAcknowledgeWindowExpiry_of_awaited {s : State} {n : SlotIx} {a : Awaited}
    (h : (s.slot n).state = .faulted (some a)) (he : s.canExpire a.window) :
    execAcknowledgeWindowExpiry n s = .next ((s.atTime (max s.now a.window)).escalate n).settle := by
  simp only [execAcknowledgeWindowExpiry, awaited?_eq_some_iff.mpr h]
  exact atExpiry_of_canExpire he _

theorem execAcknowledgeWindowExpiry_of_not_awaited {s : State} {n : SlotIx}
    (h : ∀ a, (s.slot n).state ≠ .faulted (some a)) : execAcknowledgeWindowExpiry n s = .next s := by
  have hnone : (s.slot n).state.awaited? = none :=
    Option.eq_none_iff_forall_ne_some.mpr fun a ha => h a (awaited?_eq_some_iff.mp ha)
  simp only [execAcknowledgeWindowExpiry, hnone, State.stay]

theorem execPulseEnd_of_resetting {s : State} {n : SlotIx} {p : Nat} (h : (s.slot n).state = .resetting p)
    (he : s.canExpire p) :
    execPulseEnd n s = .next ((s.atTime (max s.now p)).setSlotState n .offline).settle := by
  simp only [execPulseEnd, h]
  exact atExpiry_of_canExpire he _

theorem execPulseEnd_of_not_resetting {s : State} {n : SlotIx} (h : ∀ p, (s.slot n).state ≠ .resetting p) :
    execPulseEnd n s = .next s := by
  unfold execPulseEnd
  split
  next p hp => exact absurd hp (h p)
  next => rfl

/-- Settles O52: the timer runs and its effect is the rule's, or it does not run. -/
theorem windowExpiryEscalatesAndPulseEnds : Obligations.WindowExpiryEscalatesAndPulseEnds := fun _ _ =>
  ⟨fun _ ha he => execAcknowledgeWindowExpiry_of_awaited ha he, fun _ hp he => execPulseEnd_of_resetting hp he,
    execAcknowledgeWindowExpiry_of_not_awaited, execPulseEnd_of_not_resetting⟩

/-! ## Taking a management request (R155 to R157) -/

theorem mgmtRequest_of_takes {s : State} {l : CtrlIx} {tag code : Byte} {args : List Byte}
    (h : s.takes l (.mgmt tag code args)) {wanted : Byte → Bool} (hw : wanted code = true)
    (effect : Byte → List Byte → State → State) :
    s.mgmtRequest l wanted effect = .next (effect tag args (s.tookFrame l)).settle := by
  simp only [State.mgmtRequest, nextFrame_of_takes h, hw, if_true, State.complete]

theorem privileged_of_isManager {s : State} {l : CtrlIx} (h : s.isManager l = true) (tag : Byte)
    (effect : State → State) : s.privileged l tag effect = effect s := if_pos h

/-- A request of the manager with the one argument byte that its form asks for passes the checks of R156. -/
theorem mgmtRequest_of_manager {s : State} {l : CtrlIx} {tag code a : Byte} (h : s.takes l (.mgmt tag code [a]))
    (hm : s.isManager l = true) (effect : Byte → Byte → State → State) :
    (s.mgmtRequest l (· == code) fun tag args s => s.privileged l tag fun s => s.oneArg l tag args (effect tag))
      = .next (effect tag a (s.tookFrame l)).settle := by
  rw [mgmtRequest_of_takes h (wanted := (· == code)) (beq_self_eq_true code),
    privileged_of_isManager (s := s.tookFrame l) hm]
  rfl

/-! ## NOTICE_ACK (R132) -/

theorem exec_noticeAck (l : CtrlIx) (s : State) : exec (.noticeAck l) s = execNoticeAck l s := rfl

theorem awaits_iff {s : State} {id : Byte} {n : SlotIx} :
    s.awaits id n = true ↔ ∃ w, (s.slot n).state = .faulted (some ⟨id, w⟩) := by
  unfold State.awaits
  split
  next a ha =>
    rw [awaited?_eq_some_iff] at ha
    simp only [ha, beq_iff_eq, SlotState.faulted.injEq, Option.some.injEq]
    exact ⟨fun h => ⟨a.window, by rw [← h]⟩, fun ⟨w, h⟩ => by rw [h]⟩
  next hnone =>
    simp only [Bool.false_eq_true, false_iff, not_exists]
    intro w hw
    rw [awaited?_eq_some_iff.mpr hw] at hnone
    cases hnone

/-- The slots of a list are acknowledged, one after another. -/
def State.acknowledgeAll (s : State) (id : Byte) (ns : List SlotIx) : State :=
  ns.foldl (fun s n => s.acknowledge id n) s

theorem slot_acknowledge (s : State) (id : Byte) (n m : SlotIx) : (s.acknowledge id n).slot m =
    if n = m ∧ s.awaits id m = true then { s.slot m with state := .faulted none } else s.slot m := by
  unfold State.acknowledge
  split
  next h =>
    rw [State.setSlotState, slot_onSlot]
    by_cases hm : n = m
    · subst hm
      simp [h]
    · simp [hm]
  next h =>
    rw [if_neg]
    rintro ⟨rfl, h'⟩
    exact h h'

/-- An acknowledgement touches nothing but slots. -/
theorem acknowledge_eq_slots (s : State) (id : Byte) (n : SlotIx) :
    s.acknowledge id n = { s with slots := (s.acknowledge id n).slots } := by
  unfold State.acknowledge
  split <;> rfl

theorem acknowledgeAll_eq_slots (s : State) (id : Byte) (ns : List SlotIx) :
    s.acknowledgeAll id ns = { s with slots := (s.acknowledgeAll id ns).slots } :=
  List.foldlRecOn (motive := fun u : State => u = { s with slots := u.slots }) ns _ rfl fun u hu n _ => by
    rw [acknowledge_eq_slots u id n, hu]

theorem slot_acknowledgeAll_of_not_awaits {s : State} {id : Byte} {m : SlotIx} (h : s.awaits id m = false)
    (ns : List SlotIx) : (s.acknowledgeAll id ns).slot m = s.slot m := by
  refine List.foldlRecOn (motive := fun u : State => u.slot m = s.slot m) ns _ rfl fun u hu n _ => ?_
  have hm : u.awaits id m = false := by rw [← h, State.awaits, State.awaits, hu]
  rw [slot_acknowledge, hm, hu]
  simp

theorem slot_acknowledgeAll_of_awaits {s : State} {id : Byte} {m : SlotIx} {ns : List SlotIx} (hm : m ∈ ns)
    (h : s.awaits id m = true) : (s.acknowledgeAll id ns).slot m = { s.slot m with state := .faulted none } := by
  induction ns generalizing s with
  | nil => cases hm
  | cons n ns ih =>
    have hcons : s.acknowledgeAll id (n :: ns) = (s.acknowledge id n).acknowledgeAll id ns := rfl
    have hslot := slot_acknowledge s id n m
    rw [hcons]
    by_cases hn : n = m
    · rw [if_pos ⟨hn, h⟩] at hslot
      rw [slot_acknowledgeAll_of_not_awaits (by simp [State.awaits, hslot, SlotState.awaited?]), hslot]
    · rw [if_neg fun h => hn h.1] at hslot
      have hrest : m ∈ ns := (List.mem_cons.mp hm).resolve_left (Ne.symm hn)
      rw [ih hrest (by rw [← h, State.awaits, State.awaits, hslot]), hslot]

section NoticeAck

variable {s : State} {l : CtrlIx} {tag id : Byte} (h : s.takes l (.mgmt tag 0x09 [id])) (hm : s.isManager l = true)

include h hm

theorem execNoticeAck_of_awaited {n : SlotIx} (hn : s.awaits id n = true) : execNoticeAck l s
    = .next (((s.tookFrame l).acknowledgeAll id (List.finRange 8)).answer l tag .ok []).settle := by
  have hany : (List.finRange 8).any ((s.tookFrame l).awaits id) = true :=
    List.any_eq_true.mpr ⟨n, List.mem_finRange n, hn⟩
  rw [execNoticeAck, mgmtRequest_of_manager (code := noticeAckCode) h hm, if_pos hany]
  rfl

theorem execNoticeAck_of_not_awaited (hnone : ∀ n, s.awaits id n = false) :
    execNoticeAck l s = .next ((s.tookFrame l).answer l tag .noticeUnknown []).settle := by
  have hany : ¬ (List.finRange 8).any ((s.tookFrame l).awaits id) = true :=
    Bool.eq_false_iff.mp (List.any_eq_false.mpr fun n _ => Bool.eq_false_iff.mp (hnone n))
  rw [execNoticeAck, mgmtRequest_of_manager (code := noticeAckCode) h hm, if_neg hany]

end NoticeAck

/-- Settles O34: the slots that await the id are acknowledged, or there is none. -/
theorem noticeAckStopsTheWindow : Obligations.NoticeAckStopsTheWindow := by
  intro l tag id s h hm answered awaits
  have hnot : ∀ {n}, ¬ awaits n → s.awaits id n = false := fun hn =>
    Bool.eq_false_iff.mpr fun h => hn (awaits_iff.mp h)
  rw [exec_noticeAck]
  refine ⟨?_, fun hnone => execNoticeAck_of_not_awaited h hm fun n => hnot (hnone n)⟩
  rintro ⟨n, hn⟩
  exact ⟨(s.tookFrame l).acknowledgeAll id (List.finRange 8), execNoticeAck_of_awaited h hm (awaits_iff.mpr hn),
    fun m hm => slot_acknowledgeAll_of_awaits (s := s.tookFrame l) (List.mem_finRange m) (awaits_iff.mpr hm),
    fun m hm => slot_acknowledgeAll_of_not_awaits (s := s.tookFrame l) (hnot hm) _, acknowledgeAll_eq_slots ..⟩

/-! ## SLOT_CLEAR (R135) -/

theorem exec_slotClear (l : CtrlIx) (s : State) : exec (.slotClear l) s = execSlotClear l s := rfl

/-- The answer to a SLOT_CLEAR of the manager for a slot (R135). -/
def State.takeSlotClear (s : State) (l : CtrlIx) (tag : Byte) (n : SlotIx) : State :=
  match (s.slot n).state with
  | .faulted _ => (s.clearSlot n).answer l tag .ok []
  | .online | .offline | .resetting _ => s.answer l tag .wrongState []

section SlotClear

variable {s : State} {l : CtrlIx} {tag a : Byte} (h : s.takes l (.mgmt tag 0x0A [a])) (hm : s.isManager l = true)

include h hm

theorem execSlotClear_of_no_slot (ha : slotOfByte a = none) :
    execSlotClear l s = .next ((s.tookFrame l).answer l tag .badValue []).settle := by
  rw [execSlotClear, mgmtRequest_of_manager (code := slotClearCode) h hm, ha]

theorem execSlotClear_of_slot {n : SlotIx} (ha : slotOfByte a = some n) :
    execSlotClear l s = .next ((s.tookFrame l).takeSlotClear l tag n).settle := by
  rw [execSlotClear, mgmtRequest_of_manager (code := slotClearCode) h hm, ha]
  rfl

end SlotClear

theorem takeSlotClear_of_faulted {s : State} {n : SlotIx} {w : Option Awaited} (h : (s.slot n).state = .faulted w)
    (l : CtrlIx) (tag : Byte) : s.takeSlotClear l tag n = (s.clearSlot n).answer l tag .ok [] := by
  simp only [State.takeSlotClear, h]

theorem takeSlotClear_of_not_faulted {s : State} {n : SlotIx} (h : ∀ w, (s.slot n).state ≠ .faulted w)
    (l : CtrlIx) (tag : Byte) : s.takeSlotClear l tag n = s.answer l tag .wrongState [] := by
  unfold State.takeSlotClear
  split
  next w hw => exact absurd hw (h w)
  all_goals rfl

/-- Settles O35: the address names no slot, or the state of its slot decides. -/
theorem slotClearReturnsAFaultedSlot : Obligations.SlotClearReturnsAFaultedSlot := by
  intro l tag a s h hm u answered
  rw [exec_slotClear]
  refine ⟨fun ha => execSlotClear_of_no_slot h hm (slotOfByte_none ha), fun n ha => ?_⟩
  rw [execSlotClear_of_slot h hm ha]
  refine ⟨fun w hw => ?_, fun hw => ?_⟩
  · have hw' : (u.slot n).state = .faulted w := hw
    rw [takeSlotClear_of_faulted hw', State.clearSlot]
    refine ⟨fun hup => ?_, fun hup => ?_⟩
    · rw [if_pos (show (u.slot n).link.state = .up from hup)]
      rfl
    · rw [if_neg (show (u.slot n).link.state ≠ .up from hup)]
      rfl
  · rw [takeSlotClear_of_not_faulted (s := u) hw]
    rfl

/-! ## SLOT_RESET (R136) -/

theorem exec_slotReset (l : CtrlIx) (s : State) : exec (.slotReset l) s = execSlotReset l s := rfl

section SlotReset

variable {s : State} {l : CtrlIx} {tag a : Byte} (h : s.takes l (.mgmt tag 0x0B [a])) (hm : s.isManager l = true)

include h hm

theorem execSlotReset_of_no_slot (ha : slotOfByte a = none) :
    execSlotReset l s = .next ((s.tookFrame l).answer l tag .badValue []).settle := by
  rw [execSlotReset, mgmtRequest_of_manager (code := slotResetCode) h hm, ha]

theorem execSlotReset_of_slot {n : SlotIx} (ha : slotOfByte a = some n) :
    execSlotReset l s = .next ((s.tookFrame l).arise (.slotReset l tag n)).settle := by
  rw [execSlotReset, mgmtRequest_of_manager (code := slotResetCode) h hm, ha]

theorem execSlotReset_of_transit {n : SlotIx} (ha : slotOfByte a = some n)
    (ht : s.transitReached (.slotReset l tag n) = true) : execSlotReset l s
      = .next ((s.tookFrame l).withWaiting (s.waiting ++ [.slotReset l tag n])).settle := by
  rw [execSlotReset_of_slot h hm ha, arise_of_mustWait (s := s.tookFrame l) (w := .slotReset l tag n) ht,
    waiting_tookFrame]

section Taken

variable {n : SlotIx} (ha : slotOfByte a = some n) (ht : s.transitReached (.slotReset l tag n) = false)

include ha ht

theorem execSlotReset_of_no_transit :
    execSlotReset l s = .next ((s.tookFrame l).takeSlotReset l tag n).settle := by
  rw [execSlotReset_of_slot h hm ha, arise_of_not_mustWait (s := s.tookFrame l) (w := .slotReset l tag n) ht]
  rfl

theorem execSlotReset_of_not_resetting (hr : s.slotResetLow n = false) :
    execSlotReset l s = .next (((s.tookFrame l).resetSlot n).answer l tag .ok []).settle := by
  rw [execSlotReset_of_no_transit h hm ha ht, takeSlotReset_of_not_resetting (s := s.tookFrame l) hm hr]

theorem execSlotReset_of_resetting {p : Nat} (hr : (s.slot n).state = .resetting p) :
    execSlotReset l s = .next ((s.tookFrame l).answer l tag .wrongState []).settle := by
  rw [execSlotReset_of_no_transit h hm ha ht, takeSlotReset_of_resetting (s := s.tookFrame l) hm hr]

end Taken

end SlotReset

/-- Settles O36: the request waits, resets the slot, or finds it RESETTING. -/
theorem slotResetStartsThePulse : Obligations.SlotResetStartsThePulse := by
  intro l tag a s h hm u answered pulse
  rw [exec_slotReset]
  refine ⟨fun ha => execSlotReset_of_no_slot h hm (slotOfByte_none ha), fun n ha => ?_⟩
  have hstate : ((pulse u n).slot n).state = .resetting (s.now + 100000) := by
    simp [pulse, slot_clearReservation]
  have hidle : s.transitReached (.slotReset l tag n) = false → (s.slot n).state ≠ .online →
      s.slotResetLow n = false → execSlotReset l s = .next (answered (pulse u n) .ok).settle := fun ht hs hr => by
    rw [execSlotReset_of_not_resetting h hm ha ht hr, resetSlot_of_not_online (s := s.tookFrame l) hs]
    rfl
  refine ⟨execSlotReset_of_transit h hm ha, fun ht => ⟨fun hs => ?_, fun hs => ?_, fun w hs => ?_, fun p hs =>
    execSlotReset_of_resetting h hm ha ht hs⟩, hstate, ?_⟩
  · rw [execSlotReset_of_not_resetting h hm ha ht (by simp [State.slotResetLow, hs]),
      resetSlot_of_online (s := s.tookFrame l) hs]
    rfl
  · exact hidle ht (by simp [hs]) (by simp [State.slotResetLow, hs])
  · exact hidle ht (by simp [hs]) (by simp [State.slotResetLow, hs])
  · simp [State.slotResetLow, hstate]

end Sys2Proof.Machine
end

section
/-! PROOFS. A slot leaves service (Section 8, R129 to R131, R136): the end of a slot's work, and the fault causes. -/

namespace Sys2Proof.Machine

open Sys2Proof

/-! ## One exchange of the slot (R17, R130) -/

/-- The relay code with which the exchange ends when its slot's work ends with a code. -/
def Exchange.codeAtEnd (x : Exchange) (code : RelayCode) : RelayCode :=
  match x.phase with
  | .cancelling _ _ _ => .aborted
  | _ => code

theorem endForSlot_of_own {s : State} {n : SlotIx} {i : XtIx} {x : Exchange} (hx : s.exchange i = some x)
    (hn : x.id.slot = n) (hu : x.isEnded = false) (code : RelayCode) :
    s.endForSlot n code i = s.endExchange i (.relay (x.codeAtEnd code)) false := by
  simp only [State.endForSlot, hx, if_pos hn]
  cases hp : x.phase <;> simp [Exchange.codeAtEnd, Exchange.isEnded, hp] at hu ⊢

/-- An exchange of another slot, or one that has ended, has no part in it. -/
theorem endForSlot_of_not_own {s : State} {n : SlotIx} {i : XtIx}
    (h : ∀ x, s.exchange i = some x → x.id.slot = n → x.isEnded = true) (code : RelayCode) :
    s.endForSlot n code i = s := by
  rcases exchange_eq_none_or_some s i with hx | ⟨x, hx⟩
  · simp only [State.endForSlot, hx]
  · by_cases hn : x.id.slot = n
    · obtain ⟨r, hp | hp⟩ := isEnded_iff.mp (h x hx hn) <;> simp [State.endForSlot, hx, hp]
    · simp only [State.endForSlot, hx, if_neg hn]

/-- The exchange at an index is of slot n and has not ended, or has no part in the end of the slot's work. -/
theorem own_or_not_own (s : State) (n : SlotIx) (i : XtIx) :
    (∃ x, s.exchange i = some x ∧ x.id.slot = n ∧ x.isEnded = false)
      ∨ ∀ x, s.exchange i = some x → x.id.slot = n → x.isEnded = true := by
  by_cases h : ∃ x, s.exchange i = some x ∧ x.id.slot = n ∧ x.isEnded = false
  · exact .inl h
  · exact .inr fun x hx hn => Bool.of_not_eq_false fun hu => h ⟨x, hx, hn, hu⟩

/-- What an ending of the slot's exchanges leaves alone, their end for the slot does too. -/
theorem endForSlot_keeps {α : Type} {n : SlotIx} (g : State → α)
    (h : ∀ (s : State) i x code, s.exchange i = some x → x.id.slot = n →
      g (s.endExchange i (.relay code) false) = g s) (s : State) (code : RelayCode) (i : XtIx) :
    g (s.endForSlot n code i) = g s := by
  rcases own_or_not_own s n i with ⟨x, hx, hn, hu⟩ | hnot
  · rw [endForSlot_of_own hx hn hu, h s i x _ hx hn]
  · rw [endForSlot_of_not_own hnot]

theorem keepsAt_endForSlot_ne (s : State) (n : SlotIx) (code : RelayCode) {i j : XtIx} (h : j ≠ i) :
    s.KeepsAt (s.endForSlot n code i) j := by
  rcases own_or_not_own s n i with ⟨x, hx, hn, hu⟩ | hnot
  · rw [endForSlot_of_own hx hn hu]
    exact keepsAt_endExchange s _ h
  · rw [endForSlot_of_not_own hnot]
    exact keepsAt_of_entry_eq rfl

theorem queue_endExchange_without_orphan {s : State} {i : XtIx} {x : Exchange} (hx : s.exchange i = some x)
    (r : Response) (n : SlotIx) : ((s.endExchange i r false).slot n).queue
      = if x.id.slot = n then (s.slot n).queue.filter (· != i) else (s.slot n).queue := by
  rw [slot_endExchange_without_orphan hx]
  split
  · rw [← queue_core, core_slot_withdraw, core_close, queue_core]
  · rfl

theorem queue_endForSlot_subset (s : State) (n : SlotIx) (code : RelayCode) (i : XtIx) (m : SlotIx) :
    ((s.endForSlot n code i).slot m).queue ⊆ (s.slot m).queue := by
  rcases own_or_not_own s n i with ⟨x, hx, hn, hu⟩ | hnot
  · rw [endForSlot_of_own hx hn hu, queue_endExchange_without_orphan hx]
    split
    · exact List.filter_subset_self _
    · exact List.Subset.refl _
  · rw [endForSlot_of_not_own hnot]
    exact List.Subset.refl _

/-! ## Releases from HELD keep what an exchange is -/

theorem id_of_sameOrReleased {x y : Exchange} (h : x.sameOrReleased y) : y.id = x.id := by
  rcases h with rfl | ⟨r, -, rfl⟩ <;> rfl

theorem isEnded_of_sameOrReleased {x y : Exchange} (h : x.sameOrReleased y) : y.isEnded = x.isEnded := by
  rcases h with rfl | ⟨r, hr, rfl⟩
  · rfl
  · simp [Exchange.isEnded, hr]

/-- An exchange that has ended stays ended with its response. -/
theorem ended_of_keepsAt {s t : State} {j : XtIx} {x : Exchange} {r : Response} (hk : s.KeepsAt t j)
    (h : s.exchange j = some (x.withPhase (.held r)) ∨ s.exchange j = some (x.withPhase (.released r))) :
    t.exchange j = some (x.withPhase (.held r)) ∨ t.exchange j = some (x.withPhase (.released r)) := by
  rcases h with h | h
  · obtain ⟨y, hy, rfl | ⟨r', hr, rfl⟩⟩ := hk _ h
    · exact .inl hy
    · cases hr
      exact .inr hy
  · obtain ⟨y, hy, hsame⟩ := hk _ h
    exact .inr (hy.trans (congrArg some (eq_of_sameOrReleased hsame rfl)))

theorem isHeld_of_not_ended {x : Exchange} (h : x.isEnded = false) : x.isHeld = false := by
  unfold Exchange.isEnded at h
  unfold Exchange.isHeld
  split at h
  next => cases h
  next => cases h
  next hheld _ =>
    split
    next r hr => exact absurd hr (hheld r)
    next => rfl

/-! ## The exchanges of a list -/

/-- The exchanges of a list end for slot n, one after another. -/
def State.endList (s : State) (n : SlotIx) (code : RelayCode) (is : List XtIx) : State :=
  is.foldl (fun s i => s.endForSlot n code i) s

theorem endList_cons (s : State) (n : SlotIx) (code : RelayCode) (i : XtIx) (is : List XtIx) :
    s.endList n code (i :: is) = (s.endForSlot n code i).endList n code is := rfl

/-- After its exchanges the slot loses its orphans and its Slot Send Queue. -/
theorem endSlotWork_eq (s : State) (n : SlotIx) (code : RelayCode) :
    s.endSlotWork n code = (s.endList n code s.admissionOrder).onSlot n fun b =>
      { b with orphans := [], sendQ := [] } := rfl

theorem endList_keeps {α : Type} {n : SlotIx} (g : State → α)
    (h : ∀ (s : State) i x code, s.exchange i = some x → x.id.slot = n →
      g (s.endExchange i (.relay code) false) = g s) (s : State) (code : RelayCode) (is : List XtIx) :
    g (s.endList n code is) = g s :=
  foldl_keeps _ g (fun s i => endForSlot_keeps g h s code i) is s

theorem queue_endList_subset (s : State) (n : SlotIx) (code : RelayCode) (is : List XtIx) (m : SlotIx) :
    ((s.endList n code is).slot m).queue ⊆ (s.slot m).queue :=
  List.foldlRecOn (motive := fun u : State => (u.slot m).queue ⊆ (s.slot m).queue) is _ (List.Subset.refl _)
    fun u hu i _ => List.Subset.trans (queue_endForSlot_subset u n code i m) hu

theorem keepsAt_endList {s : State} {n : SlotIx} {j : XtIx}
    (h : ∀ x, s.exchange j = some x → x.id.slot = n → x.isEnded = true) (code : RelayCode) (is : List XtIx) :
    s.KeepsAt (s.endList n code is) j := by
  induction is generalizing s with
  | nil => exact keepsAt_of_entry_eq rfl
  | cons i is ih =>
    rw [endList_cons]
    have hstep : s.KeepsAt (s.endForSlot n code i) j := by
      by_cases hji : j = i
      · rw [← hji, endForSlot_of_not_own h]
        exact keepsAt_of_entry_eq rfl
      · exact keepsAt_endForSlot_ne s n code hji
    refine fun x hx => keepsAt_trans hstep (ih fun y hy hn => ?_) x hx
    obtain ⟨z, hz, hxz⟩ := hstep x hx
    obtain rfl : z = y := Option.some.inj (hz.symm.trans hy)
    rw [isEnded_of_sameOrReleased hxz]
    exact h x hx (id_of_sameOrReleased hxz ▸ hn)

/-- An exchange of the slot that stands in the list ends, and waits there no more. -/
theorem endList_of_own {s : State} {n : SlotIx} {j : XtIx} {x : Exchange} {is : List XtIx} (hj : j ∈ is)
    (hx : s.exchange j = some x) (hn : x.id.slot = n) (hu : x.isEnded = false) (code : RelayCode) :
    ((s.endList n code is).exchange j = some (x.withPhase (.held (.relay (x.codeAtEnd code))))
      ∨ (s.endList n code is).exchange j = some (x.withPhase (.released (.relay (x.codeAtEnd code)))))
      ∧ j ∉ ((s.endList n code is).slot n).queue := by
  induction is generalizing s with
  | nil => cases hj
  | cons i is ih =>
    rw [endList_cons]
    by_cases hji : j = i
    · subst hji
      rw [endForSlot_of_own hx hn hu]
      have hended := exchange_endExchange_self (.relay (x.codeAtEnd code)) hx
      refine ⟨ended_of_keepsAt (keepsAt_endList (fun y hy _ => ?_) code is) hended, fun hmem => ?_⟩
      · rcases hended with h | h
        all_goals
          obtain rfl := Option.some.inj (h.symm.trans hy)
          rfl
      · have hqueue := queue_endList_subset _ n code is n hmem
        rw [queue_endExchange_without_orphan hx, if_pos hn] at hqueue
        simp at hqueue
    · obtain ⟨y, hy, hsame⟩ := keepsAt_endForSlot_ne s n code hji x hx
      obtain rfl := eq_of_sameOrReleased hsame (isHeld_of_not_ended hu)
      exact ih ((List.mem_cons.mp hj).resolve_left hji) hy

/-! ## The end of a slot's work (R130, R136) -/

/-- A slot but for the two queues that its exchanges leave. -/
def SlotBlock.unqueued (b : SlotBlock) : SlotBlock := { b with queue := [], sendQ := [] }

theorem unqueued_withdraw (b : SlotBlock) (f : SlotFrame) : (b.withdraw f).unqueued = b.unqueued := by
  obtain ⟨q, hq⟩ := exists_sendQ_withdraw b f
  rw [hq]
  rfl

theorem unqueued_endExchange {s : State} {i : XtIx} {x : Exchange} (hx : s.exchange i = some x) (r : Response)
    (m : SlotIx) : ((s.endExchange i r false).slot m).unqueued = (s.slot m).unqueued := by
  rw [slot_endExchange_without_orphan hx]
  split
  · rw [unqueued_withdraw, SlotBlock.close, unqueued_withdraw, unqueued_withdraw]
    rfl
  · rfl

theorem identity_endExchange {s : State} {i : XtIx} {x : Exchange} (hx : s.exchange i = some x) (r : Response) :
    (s.endExchange i r false).identity = s.identity := by
  rw [endExchange_without_orphan hx, identity_handToOrderUnit]
  exact funext fun j => identity_of_entry_eq (entry_closed ..)

section EndSlotWork

variable (s : State) (n : SlotIx) (code : RelayCode)

theorem queue_endSlotWork : ((s.endSlotWork n code).slot n).queue
    = ((s.endList n code s.admissionOrder).slot n).queue := by
  rw [endSlotWork_eq, slot_onSlot_self]

/-- Of its own slot the end of the work takes what is on its way to the card and what the card still has. -/
theorem slot_endSlotWork_self : (s.endSlotWork n code).slot n
    = { s.slot n with queue := ((s.endSlotWork n code).slot n).queue, orphans := [], sendQ := [] } := by
  have hkeep : ((s.endList n code s.admissionOrder).slot n).unqueued = (s.slot n).unqueued :=
    endList_keeps (fun u => (u.slot n).unqueued) (fun _ _ _ _ hx _ => unqueued_endExchange hx _ n) s code _
  rw [queue_endSlotWork, endSlotWork_eq, slot_onSlot_self]
  exact congrArg (fun b : SlotBlock =>
    { b with queue := ((s.endList n code s.admissionOrder).slot n).queue, orphans := [] }) hkeep

theorem slot_endSlotWork_ne {m : SlotIx} (h : m ≠ n) : (s.endSlotWork n code).slot m = s.slot m := by
  rw [endSlotWork_eq, slot_onSlot_ne _ _ h.symm]
  exact endList_keeps (fun u => u.slot m) (fun u i x _ hx hn => by
    rw [slot_endExchange_without_orphan hx, if_neg (hn ▸ h.symm)]) s code _

theorem identity_endSlotWork : (s.endSlotWork n code).identity = s.identity :=
  endList_keeps State.identity (fun _ _ _ _ hx _ => identity_endExchange hx _) s code s.admissionOrder

theorem unlisted_endSlotWork (l : CtrlIx) : ((s.endSlotWork n code).ctrl l).unlisted = (s.ctrl l).unlisted :=
  endList_keeps (fun u => (u.ctrl l).unlisted) (fun u i _ code _ _ =>
    unlisted_endExchange u i (.relay code) l) s code s.admissionOrder

theorem blocks_endSlotWork : (s.endSlotWork n code).blocks = s.blocks :=
  (blocks_of_stores_eq (stores_onSlot ..)).trans
    (endList_keeps State.blocks (fun _ _ _ code hx _ => blocks_endExchange_relay hx code) s code _)

variable {s n}

/-- Exchanges that are not of the slot, and those that have ended, stay, but for releases from HELD. -/
theorem keepsAt_endSlotWork {i : XtIx} (h : ∀ x, s.exchange i = some x → x.id.slot = n → x.isEnded = true) :
    s.KeepsAt (s.endSlotWork n code) i := keepsAt_endList h code s.admissionOrder

/-- An exchange of the slot that the admission order lists ends, and waits in the Slot Queue no more. -/
theorem endSlotWork_of_own {i : XtIx} (hi : i ∈ s.admissionOrder) {x : Exchange} (hx : s.exchange i = some x)
    (hn : x.id.slot = n) (hu : x.isEnded = false) :
    ((s.endSlotWork n code).exchange i = some (x.withPhase (.held (.relay (x.codeAtEnd code))))
      ∨ (s.endSlotWork n code).exchange i = some (x.withPhase (.released (.relay (x.codeAtEnd code)))))
      ∧ i ∉ ((s.endSlotWork n code).slot n).queue := by
  rw [queue_endSlotWork]
  exact endList_of_own hi hx hn hu code

theorem noticeQ_endSlotWork (l : CtrlIx) : ((s.endSlotWork n code).ctrl l).noticeQ = (s.ctrl l).noticeQ := by
  have h := congrArg CtrlBlock.noticeQ (unlisted_endSlotWork s n code l)
  exact h

theorem setting_endSlotWork : (s.endSlotWork n code).setting = s.setting :=
  setting_of_ground_eq (ground_endSlotWork s n code)

theorem noticeId_endSlotWork : (s.endSlotWork n code).noticeId = s.noticeId :=
  congrArg (fun g => g.2.2.2.2.1) (ground_endSlotWork s n code)

end EndSlotWork

/-! ## Fault causes (R129 to R131) -/

theorem faultSlot_of_not_online {s : State} {n : SlotIx} (h : (s.slot n).state ≠ .online) (cause : LastFault) :
    s.faultSlot n cause = s := if_neg h

/-- The slot is out of service with its cause, and the next notice id is awaited for one acknowledge window. -/
def State.tookFault (s : State) (n : SlotIx) (cause : LastFault) : State :=
  (s.endSlotWork n .slotFault).onSlot n fun b =>
    { b with
      lastFault := cause
      state := .faulted (some ⟨s.noticeId, s.now + s.active.params.ackWindow * 500000⟩) }

theorem faultSlot_of_online {s : State} {n : SlotIx} (h : (s.slot n).state = .online) (cause : LastFault) :
    s.faultSlot n cause = (s.tookFault n cause).notifyManager .slotFault (slotByte n) cause.cause cause.data := by
  simp only [State.faultSlot, if_pos h, State.tookFault, noticeId_endSlotWork, Config.cyclesPerMs, Nat.mul_assoc]

section Faulted

variable {s : State} {n : SlotIx} (h : (s.slot n).state = .online) (cause : LastFault)

include h

theorem resv_faultSlot_of_online : ((s.faultSlot n cause).slot n).resv = (s.slot n).resv := by
  rw [faultSlot_of_online h, slot_notifyManager, State.tookFault, slot_onSlot_self, slot_endSlotWork_self]

theorem noticeId_faultSlot_of_online : (s.faultSlot n cause).noticeId = s.noticeId + 1 := by
  rw [faultSlot_of_online h, noticeId_notifyManager, State.tookFault, onSlot_noticeId, noticeId_endSlotWork]

/-- The manager is told, when its queue has room (R131, R162). -/
theorem noticeQ_faultSlot_of_online {l : CtrlIx} (hl : s.manager = some l) (hroom : (s.ctrl l).noticeQ.length < 16) :
    ((s.faultSlot n cause).ctrl l).noticeQ
      = (s.ctrl l).noticeQ ++ [⟨s.noticeId, .slotFault, slotByte n, cause.cause, cause.data⟩] := by
  have hmanager : (s.tookFault n cause).manager = some l :=
    (manager_of_setting_eq (setting_endSlotWork .slotFault)).trans hl
  have hqueue : ((s.tookFault n cause).ctrl l).noticeQ = (s.ctrl l).noticeQ := noticeQ_endSlotWork .slotFault l
  have hid : (s.tookFault n cause).noticeId = s.noticeId := noticeId_endSlotWork .slotFault
  rw [faultSlot_of_online h, ctrl_notifyManager, if_pos hmanager, addNotice_of_room _ (hqueue ▸ hroom), hqueue, hid]

end Faulted

/-! ## The FAULT frame (R129, R174) -/

theorem exec_fault (n : SlotIx) (s : State) : exec (.fault n) s = execFault n s := rfl

section Fault

variable {s : State} {n : SlotIx} {code : Byte} (h : s.slotTakes n (.fault code))

include h

theorem execFault_of_transit (ht : s.transitReached (.faultFrame n code) = true) : execFault n s
    = .next ((s.tookSlotFrame n).withWaiting (s.waiting ++ [.faultFrame n code])).settle := by
  have hwait : (s.tookSlotFrame n).mustWait (.faultFrame n code) = true :=
    (transitReached_tookSlotFrame s n _).trans ht
  simp only [execFault, nextSlotFrame_of_takes h, arise_of_mustWait hwait, waiting_tookSlotFrame, State.complete]

theorem execFault_of_no_transit (ht : s.transitReached (.faultFrame n code) = false) :
    execFault n s = .next ((s.tookSlotFrame n).faultSlot n (.faultFrame code)).settle := by
  have hwait : (s.tookSlotFrame n).mustWait (.faultFrame n code) = false :=
    (transitReached_tookSlotFrame s n _).trans ht
  simp only [execFault, nextSlotFrame_of_takes h, arise_of_not_mustWait hwait, State.takeWaiting, State.complete]

end Fault

/-- Settles O48: the frame is one of the causes, every cause that finds an ONLINE slot does the same, and the work that
it ends is the slot's alone. -/
theorem faultTakesTheSlotOutOfService : Obligations.FaultTakesTheSlotOutOfService := by
  refine ⟨?frame, fun n s => ⟨fun cause hs => faultSlot_of_not_online hs cause, ?cause, ?work⟩⟩
  case frame =>
    intro n code s h u
    refine ⟨execFault_of_transit h, fun ht hs => ?_, fun ht _ => execFault_of_no_transit h ht⟩
    have hs' : (u.slot n).state ≠ .online := (state_tookSlotFrame s n n).symm ▸ hs
    rw [exec_fault, execFault_of_no_transit h ht, faultSlot_of_not_online hs']
  case cause =>
    intro cause word data hcause hs
    obtain ⟨hword, hdata⟩ : word = cause.cause ∧ data = cause.data := by
      rcases hcause with ⟨code, rfl, rfl, rfl⟩ | ⟨rfl, rfl, rfl⟩ | ⟨rfl, rfl, rfl⟩ <;> exact ⟨rfl, rfl⟩
    subst hword hdata
    exact ⟨faultSlot_of_online hs cause, resv_faultSlot_of_online hs cause, noticeId_faultSlot_of_online hs cause,
      fun l => noticeQ_faultSlot_of_online hs cause⟩
  case work =>
    intro code hadmission t
    obtain ⟨hnow, hpending, horder, htables, hid, hwaiting⟩ :
        t.now = s.now ∧ t.pending = s.pending ∧ t.admissionOrder = s.admissionOrder ∧ t.tables = s.tables
          ∧ t.noticeId = s.noticeId ∧ t.waiting = s.waiting := by
      simpa only [State.ground, Prod.mk.injEq] using ground_endSlotWork s n code
    have hidentity : ∀ i, t.identity i = s.identity i := congrFun (identity_endSlotWork s n code)
    refine ⟨slot_endSlotWork_self s n code, fun m hm => slot_endSlotWork_ne s n code hm, ?own, ?others,
      fun i hi => ?free, fun i => congrArg Prod.fst (hidentity i), fun l => ?link,
      sameTotals_of_blocks_eq (blocks_endSlotWork s n code),
      hid, hwaiting, hpending, htables, hnow, horder⟩
    case own =>
      intro i x hx hn hu
      obtain ⟨hended, hqueue⟩ := endSlotWork_of_own code (mem_admissionOrder_of_exchange hadmission hx) hx hn hu
      refine ⟨hqueue, .relay (x.codeAtEnd code), ?_, hended⟩
      cases hp : x.phase <;> simp only [Exchange.codeAtEnd, hp]
    case others =>
      intro i x hx hout
      refine keepsAt_endSlotWork code (fun y hy hn => ?_) x hx
      obtain rfl : x = y := Option.some.inj (hx.symm.trans hy)
      exact hout.resolve_left fun hne => hne hn
    case free => exact (congrArg Entry.live (entry_of_identity_eq (hidentity i) hi)).trans hi
    case link =>
      exact congrArg (fun b : CtrlBlock =>
        { b with orderList := (t.ctrl l).orderList, releaseQ := (t.ctrl l).releaseQ }) (unlisted_endSlotWork s n code l)

end Sys2Proof.Machine
end

section
/-! PROOFS. The work of a slot (R43, R44, R102, R127): its unended exchanges and its orphans, counted by index and by
the position they hold. All events but admissions, issues and PARKs only let it wane. -/

namespace Sys2Proof.Machine

open Sys2Proof

/-! ## What is counted -/

/-- 1 for an exchange of slot n that has not ended and holds the position q, none while it is QUEUED. -/
def Exchange.workAt (x : Exchange) (n : SlotIx) (q : Option Position) : Nat :=
  if x.isEnded = false ∧ x.id.slot = n ∧ x.position = q then 1 else 0

/-- The work of the exchange at an index. -/
def State.workOf (s : State) (n : SlotIx) (i : XtIx) (q : Option Position) : Nat :=
  (s.exchange i).elim 0 fun x => x.workAt n q

/-- The orphans of slot n with an index that hold a position. -/
def State.orphansOf (s : State) (n : SlotIx) (i : XtIx) (q : Option Position) : Nat :=
  (s.slot n).orphans.countP fun o => o.tag.index == i && some o.former == q

/-- The work of slot n with an index in a position: that of the exchange and the orphans. -/
def State.work (s : State) (n : SlotIx) (i : XtIx) (q : Option Position) : Nat := s.workOf n i q + s.orphansOf n i q

/-- A slot has no work: no exchange that has not ended, and no orphan. -/
def State.Idle (s : State) (n : SlotIx) : Prop := ∀ i q, s.work n i q = 0

/-- The admission order lists every exchange that has not ended, so that the end of a slot's work finds it. -/
def State.Listed (s : State) : Prop := ∀ i x, s.exchange i = some x → x.isEnded = false → i ∈ s.admissionOrder

theorem workAt_of_ended {x : Exchange} (h : x.isEnded = true) (n : SlotIx) (q : Option Position) :
    x.workAt n q = 0 := by
  simp [Exchange.workAt, h]

theorem workAt_self {x : Exchange} (h : x.isEnded = false) : x.workAt x.id.slot x.position = 1 := by
  simp [Exchange.workAt, h]

theorem workOf_of_exchange {s : State} {i : XtIx} {x : Exchange} (hx : s.exchange i = some x) (n : SlotIx)
    (q : Option Position) : s.workOf n i q = x.workAt n q := by
  simp [State.workOf, hx]

theorem workOf_of_free {s : State} {i : XtIx} (hx : s.exchange i = none) (n : SlotIx) (q : Option Position) :
    s.workOf n i q = 0 := by
  simp [State.workOf, hx]

theorem workOf_of_ended {s : State} {i : XtIx} (h : ∀ x, s.exchange i = some x → x.isEnded = true) (n : SlotIx)
    (q : Option Position) : s.workOf n i q = 0 := by
  rcases exchange_eq_none_or_some s i with hx | ⟨x, hx⟩
  · exact workOf_of_free hx n q
  · rw [workOf_of_exchange hx, workAt_of_ended (h x hx)]

theorem workOf_of_exchange_eq {s t : State} {i : XtIx} (h : t.exchange i = s.exchange i) (n : SlotIx)
    (q : Option Position) : t.workOf n i q = s.workOf n i q := by
  rw [State.workOf, h, State.workOf]

/-! ## What the core of a state gives -/

/-- The parts of a slot that its work depends on. -/
def SlotBlock.duty (b : SlotBlock) : SlotState × List Orphan := (b.state, b.orphans)

theorem state_of_duty_eq {b b' : SlotBlock} (h : b'.duty = b.duty) : b'.state = b.state := congrArg Prod.fst h
theorem orphans_of_duty_eq {b b' : SlotBlock} (h : b'.duty = b.duty) : b'.orphans = b.orphans := congrArg Prod.snd h

theorem orphansOf_of_duty_eq {s t : State} {n : SlotIx} (h : (t.slot n).duty = (s.slot n).duty) (i : XtIx)
    (q : Option Position) : t.orphansOf n i q = s.orphansOf n i q := by
  rw [State.orphansOf, orphans_of_duty_eq h, State.orphansOf]

theorem duty_core (b : SlotBlock) : b.core.duty = b.duty := rfl

theorem duty_of_core_eq {s t : State} (h : t.core = s.core) (n : SlotIx) : (t.slot n).duty = (s.slot n).duty := by
  rw [← duty_core, slot_core_of_core_eq h, duty_core]

theorem admissionOrder_of_core_eq {s t : State} (h : t.core = s.core) : t.admissionOrder = s.admissionOrder :=
  congrArg (fun c => c.2.1) h

theorem duty_close (b : SlotBlock) (i : XtIx) (t : RelayTag) : (b.close i t).duty = b.duty := by
  rw [← duty_core, core_close, duty_core]
  rfl

/-! ## Waning -/

/-- From s to t no work arises, the admission order goes on listing it, and a slot that leaves service is idle. -/
structure State.Wanes (s t : State) : Prop where
  work : ∀ n i q, t.work n i q ≤ s.work n i q
  listed : s.Listed → t.Listed
  service : s.Listed → ∀ n, (t.slot n).state ≠ .online → (s.slot n).state ≠ .online ∨ t.Idle n

theorem idle_of_wanes {s t : State} {n : SlotIx} (hs : s.Idle n) (h : s.Wanes t) : t.Idle n := fun i q =>
  Nat.eq_zero_of_le_zero ((hs i q).symm ▸ h.work n i q)

theorem State.Wanes.trans {s t u : State} (h : s.Wanes t) (h' : t.Wanes u) : s.Wanes u where
  work := fun n i q => (h'.work n i q).trans (h.work n i q)
  listed := fun hl => h'.listed (h.listed hl)
  service := fun hl n hn => by
    rcases h'.service (h.listed hl) n hn with ht | hidle
    · exact (h.service hl n ht).imp_right fun hidle => idle_of_wanes hidle h'
    · exact .inr hidle

theorem wanes_of_same {s t : State} (hx : ∀ i, t.exchange i = s.exchange i)
    (horder : t.admissionOrder = s.admissionOrder)
    (hslots : ∀ n, (t.slot n).duty = (s.slot n).duty) : s.Wanes t where
  work := fun n i q => by
    rw [State.work, State.work, workOf_of_exchange_eq (hx i), orphansOf_of_duty_eq (hslots n)]
  listed := fun hl i x hi hu => by
    rw [hx] at hi
    rw [horder]
    exact hl i x hi hu
  service := fun _ n hn => .inl (state_of_duty_eq (hslots n) ▸ hn)

theorem wanes_refl (s : State) : s.Wanes s := wanes_of_same (fun _ => rfl) rfl fun _ => rfl

theorem wanes_of_core_eq {s t : State} (h : t.core = s.core) : s.Wanes t :=
  wanes_of_same (exchange_of_core_eq h) (admissionOrder_of_core_eq h) (duty_of_core_eq h)

theorem wanes_foldl {β : Type} {f : State → β → State} (h : ∀ u b, State.Wanes u (f u b)) (bs : List β)
    (s : State) : s.Wanes (bs.foldl f s) :=
  List.foldlRecOn bs f (wanes_refl s) fun u hu b _ => hu.trans (h u b)

theorem wanes_onCtrl (s : State) (l : CtrlIx) (f : CtrlBlock → CtrlBlock) : s.Wanes (s.onCtrl l f) :=
  wanes_of_same (fun _ => rfl) rfl fun _ => rfl

theorem orphansOf_onSlot_le {s : State} {m : SlotIx} {f : SlotBlock → SlotBlock}
    (h : (f (s.slot m)).orphans.Sublist (s.slot m).orphans) (n : SlotIx) (i : XtIx) (q : Option Position) :
    (s.onSlot m f).orphansOf n i q ≤ s.orphansOf n i q := by
  unfold State.orphansOf
  rw [slot_onSlot]
  split
  next hm =>
    subst hm
    exact h.countP_le
  next => exact Nat.le_refl _

/-- A change of a slot that adds no orphan wanes; where it takes the slot out of service, that slot must be idle. -/
theorem wanes_onSlot_of_idle {s : State} {m : SlotIx} {f : SlotBlock → SlotBlock}
    (horphans : (f (s.slot m)).orphans.Sublist (s.slot m).orphans)
    (hstate : s.Listed → (f (s.slot m)).state ≠ .online → (s.slot m).state ≠ .online ∨ s.Idle m) :
    s.Wanes (s.onSlot m f) := by
  have hwork : ∀ n i q, (s.onSlot m f).work n i q ≤ s.work n i q := fun n i q =>
    Nat.add_le_add_left (orphansOf_onSlot_le horphans n i q) _
  refine ⟨hwork, fun hl => hl, fun hl n hn => ?_⟩
  rw [slot_onSlot] at hn
  split at hn
  next hm =>
    subst hm
    exact (hstate hl hn).imp_right fun (hidle : s.Idle m) i q =>
      Nat.eq_zero_of_le_zero ((hidle i q).symm ▸ hwork m i q)
  next => exact .inl hn

theorem wanes_onSlot {s : State} {m : SlotIx} {f : SlotBlock → SlotBlock}
    (horphans : (f (s.slot m)).orphans.Sublist (s.slot m).orphans)
    (hstate : (f (s.slot m)).state = (s.slot m).state) : s.Wanes (s.onSlot m f) :=
  wanes_onSlot_of_idle horphans fun _ hn => .inl (hstate ▸ hn)

theorem wanes_onResv (s : State) (m : SlotIx) (f : Reservation → Reservation) : s.Wanes (s.onResv m f) :=
  wanes_onSlot (List.Sublist.refl _) rfl

theorem wanes_setSlotState {s : State} {m : SlotIx} {st : SlotState}
    (h : st = .online ∨ (s.slot m).state ≠ .online) : s.Wanes (s.setSlotState m st) :=
  wanes_onSlot_of_idle (List.Sublist.refl _) fun _ hn => .inl (h.resolve_left hn)

theorem wanes_removeOrphan (s : State) (m : SlotIx) (t : RelayTag) : s.Wanes (s.removeOrphan m t) :=
  (wanes_onSlot List.filter_sublist rfl).trans (wanes_of_core_eq (core_withdrawSend ..))

theorem wanes_clearReservation (s : State) (m : SlotIx) (cause : NoticeCause) :
    s.Wanes (s.clearReservation m cause) := by
  have htold : s.Wanes (s.tellHolder m cause) := by
    unfold State.tellHolder
    split
    · exact wanes_of_core_eq (core_notify ..)
    · exact wanes_refl s
  rw [clearReservation_eq]
  exact (htold.trans (wanes_foldl (fun u l => wanes_of_core_eq (core_notify ..)) _ _)).trans (wanes_onResv ..)

/-! ## Phases -/

/-- An exchange takes a phase that gives it no work that it did not have. -/
theorem wanes_setPhase {s : State} {i : XtIx} {ph : Phase}
    (h : ∀ x, s.exchange i = some x → ∀ n q, (x.withPhase ph).workAt n q ≤ x.workAt n q) :
    s.Wanes (s.setPhase i ph) := by
  rcases exchange_eq_none_or_some s i with hx | ⟨x, hx⟩
  · have hstay : s.setPhase i ph = s := by simp only [State.setPhase, hx]
    rw [hstay]
    exact wanes_refl s
  rw [setPhase_of_exchange hx]
  refine ⟨fun n j q => Nat.add_le_add_right ?_ _, fun hl j y hy hu => ?_, fun _ n hn => .inl hn⟩
  · by_cases hj : i = j
    · subst hj
      rw [workOf_of_exchange (exchange_setEntry_self ..), workOf_of_exchange hx]
      exact h x hx n q
    · exact Nat.le_of_eq (workOf_of_exchange_eq (exchange_setEntry_ne _ _ hj) n q)
  · by_cases hj : i = j
    · subst hj
      obtain rfl := Option.some.inj ((exchange_setEntry_self ..).symm.trans hy)
      refine hl i x hx (Bool.of_not_eq_true fun hended => ?_)
      have hle := h x hx (x.withPhase ph).id.slot (x.withPhase ph).position
      rw [workAt_of_ended hended, workAt_self hu] at hle
      omega
    · rw [exchange_setEntry_ne _ _ hj] at hy
      exact hl j y hy hu

/-- An exchange that has not ended takes a phase in which it holds the position it had. -/
theorem wanes_setPhase_of_position {s : State} {i : XtIx} {x : Exchange} {ph : Phase} (hx : s.exchange i = some x)
    (hu : x.isEnded = false) (hp : (x.withPhase ph).position = x.position) : s.Wanes (s.setPhase i ph) := by
  refine wanes_setPhase fun y hy n q => ?_
  obtain rfl : x = y := Option.some.inj (hx.symm.trans hy)
  unfold Exchange.workAt
  rw [hp, hu]
  split <;> simp_all

/-- The state u is s with the slot side of exchange i closed: an orphan has at most what the exchange had. -/
structure State.Hands (i : XtIx) (s u : State) : Prop where
  entries : u.entries = s.entries
  order : ∀ j, j ≠ i → j ∈ s.admissionOrder → j ∈ u.admissionOrder
  state : ∀ n, (u.slot n).state = (s.slot n).state
  orphans : ∀ n j q, u.orphansOf n j q ≤ s.orphansOf n j q + if j = i then s.workOf n i q else 0

theorem hands_refl (s : State) (i : XtIx) : s.Hands i s :=
  ⟨rfl, fun _ _ h => h, fun _ => rfl, fun _ _ _ => Nat.le_add_right _ _⟩

/-- What it hands on stays handed on while the slots and the entries stay. -/
theorem hands_of_same {s u v : State} {i : XtIx} (h : s.Hands i u) (hentries : v.entries = u.entries)
    (horder : ∀ j, j ≠ i → j ∈ u.admissionOrder → j ∈ v.admissionOrder)
    (hslots : ∀ n, (v.slot n).duty = (u.slot n).duty) : s.Hands i v where
  entries := hentries.trans h.entries
  order := fun j hj hm => horder j hj (h.order j hj hm)
  state := fun n => (state_of_duty_eq (hslots n)).trans (h.state n)
  orphans := fun n j q => by
    rw [orphansOf_of_duty_eq (hslots n)]
    exact h.orphans n j q

theorem hands_of_core_eq {s u v : State} {i : XtIx} (h : s.Hands i u) (hv : v.core = u.core) : s.Hands i v :=
  hands_of_same h (entries_of_core_eq hv) (fun _ _ hm => (admissionOrder_of_core_eq hv).symm ▸ hm)
    (duty_of_core_eq hv)

/-- The exchange has ended, or its entry is FREE, once its work has been handed on. -/
theorem wanes_setEntry_of_hands {s u : State} {i : XtIx} {e : Entry} (h : s.Hands i u)
    (he : ∀ x, e.live = some x → x.isEnded = true) : s.Wanes (u.setEntry i e) := by
  have hself : ∀ x, (u.setEntry i e).exchange i = some x → x.isEnded = true := fun x hx =>
    he x ((exchange_setEntry_self ..).symm.trans hx)
  have hother : ∀ j, i ≠ j → (u.setEntry i e).exchange j = s.exchange j := fun j hj => by
    rw [exchange_setEntry_ne _ _ hj, State.exchange, State.entry, h.entries]
    rfl
  refine ⟨fun n j q => ?_, fun hl j y hy hu => ?_, fun _ n hn => ?_⟩
  · have horphans : (u.setEntry i e).orphansOf n j q = u.orphansOf n j q :=
      orphansOf_of_duty_eq (by rw [slot_setEntry]) j q
    have hle := h.orphans n j q
    rw [State.work, State.work, horphans]
    by_cases hj : i = j
    · subst hj
      rw [workOf_of_ended hself]
      rw [if_pos rfl] at hle
      omega
    · rw [workOf_of_exchange_eq (hother j hj)]
      rw [if_neg (Ne.symm hj)] at hle
      omega
  · by_cases hj : i = j
    · subst hj
      simp [hself y hy] at hu
    · exact h.order j (Ne.symm hj) (hl j y (hother j hj ▸ hy) hu)
  · rw [slot_setEntry, h.state] at hn
    exact .inl hn

theorem wanes_setPhase_of_hands {s u : State} {i : XtIx} {ph : Phase} (h : s.Hands i u)
    (hph : ∀ x : Exchange, (x.withPhase ph).isEnded = true) : s.Wanes (u.setPhase i ph) := by
  rcases exchange_eq_none_or_some u i with hx | ⟨x, hx⟩
  · have hsame : u.setPhase i ph = u.setEntry i (u.entry i) := by
      simp [State.setPhase, hx, State.setEntry, State.entry]
    rw [hsame]
    exact wanes_setEntry_of_hands h fun y hy => by
      rw [State.exchange, hy] at hx
      cases hx
  · rw [setPhase_of_exchange hx]
    exact wanes_setEntry_of_hands h fun y hy => Option.some.inj hy ▸ hph x

theorem wanes_release_of_hands {s u : State} {i : XtIx} (h : s.Hands i u) (l : CtrlIx) (r : Response) :
    s.Wanes (u.release l i r) :=
  (wanes_setPhase_of_hands h fun _ => rfl).trans (wanes_onCtrl ..)

/-- The exchange holds the position that an orphan takes over. -/
theorem position_of_orphans {x : Exchange} {p : Position} (h : x.orphans = some p) :
    x.isEnded = false ∧ x.position = some p := by
  unfold Exchange.orphans at h
  split at h
  next hp => simp_all [Exchange.isEnded, Exchange.position]
  next hp => simp_all [Exchange.isEnded, Exchange.position]
  next hp => simp_all [Exchange.isEnded, Exchange.position]
  next => cases h

/-- Closing the slot side of an exchange hands its work to its orphan, if one takes over (R15, R16). -/
theorem hands_closeSlotSide {s : State} {i : XtIx} {x : Exchange} (hx : s.exchange i = some x) (kept : Nat)
    {o : Option Position} (ho : ∀ p, o = some p → x.orphans = some p) : s.Hands i (s.closeSlotSide i x kept o) := by
  have horder : (s.closeSlotSide i x kept o).admissionOrder = s.admissionOrder :=
    congrArg (fun g => g.2.2.1) (ground_closeSlotSide s i x kept o)
  refine ⟨entries_closeSlotSide .., fun j _ hj => horder.symm ▸ hj, fun n => ?_, fun n j q => ?_⟩
  · rw [slot_closeSlotSide]
    split
    · exact (state_of_duty_eq (duty_close (s.slot n) i (s.relayTag i)) :)
    · rfl
  · unfold State.orphansOf
    rw [slot_closeSlotSide]
    split
    next hn =>
      rw [SlotBlock.adopt, List.countP_append, orphans_of_duty_eq (duty_close ..)]
      refine Nat.add_le_add_left ?_ _
      cases o with
      | none => exact Nat.zero_le _
      | some p =>
        obtain ⟨hu, hp⟩ := position_of_orphans (ho p rfl)
        rw [workOf_of_exchange hx, Exchange.workAt, Option.toList_some, List.map_singleton, List.countP_singleton]
        by_cases hgain : i = j ∧ some p = q
        · obtain ⟨rfl, rfl⟩ := hgain
          simp [State.orphanNow, State.relayTag, hu, hn, hp]
        · rw [if_neg (by simpa [State.orphanNow, State.relayTag] using hgain)]
          exact Nat.zero_le _
    next => exact Nat.le_add_right _ _

/-! ## Endings (R15, R18, R79, R80) -/

theorem wanes_releaseHeld (s : State) (l : CtrlIx) (i : XtIx) : s.Wanes (s.releaseHeld l i) := by
  unfold State.releaseHeld
  split
  · split
    · exact wanes_release_of_hands (hands_refl s i) l _
    · exact wanes_refl s
  · exact wanes_refl s

theorem wanes_cascade (s : State) (l : CtrlIx) : s.Wanes (s.cascade l) := by
  rw [cascade_eq_releaseAll]
  exact (wanes_onCtrl ..).trans (wanes_foldl (fun u i => wanes_releaseHeld u l i) _ _)

theorem wanes_handToOrderUnit_of_hands {s u : State} {i : XtIx} (h : s.Hands i u) (x : Exchange) (r : Response) :
    s.Wanes (u.handToOrderUnit i x r) := by
  have hrelease : s.Wanes (u.release x.id.link i r) := wanes_release_of_hands h _ r
  unfold State.handToOrderUnit
  dsimp only
  split
  · split
    · exact (hrelease.trans (wanes_onCtrl ..)).trans (wanes_cascade ..)
    · exact wanes_setPhase_of_hands h fun _ => rfl
  · exact hrelease

theorem wanes_endExchange (s : State) (i : XtIx) (r : Response) (orphan : Bool) :
    s.Wanes (s.endExchange i r orphan) := by
  unfold State.endExchange
  split
  next => exact wanes_refl s
  next x hx =>
    refine wanes_handToOrderUnit_of_hands ?_ x r
    cases orphan with
    | true => exact hands_closeSlotSide hx _ fun _ h => h
    | false => exact hands_of_core_eq (hands_closeSlotSide hx _ fun _ h => by cases h) (core_withdrawSend ..)

theorem wanes_freeEntry {s : State} {i : XtIx} {x : Exchange} (hx : s.exchange i = some x) {o : Option Position}
    (ho : ∀ p, o = some p → x.orphans = some p) : s.Wanes (s.freeEntry i x o) :=
  wanes_setEntry_of_hands (hands_of_same (hands_closeSlotSide hx 0 ho) rfl (fun _ hj hm => mem_filter_ne hj hm)
    fun _ => rfl) fun _ hy => by cases hy

end Sys2Proof.Machine
end

section
/-! PROOFS. The operations that let the work of the slots wane (R127): all but the admission, the issue and the PARK of
an exchange. -/

namespace Sys2Proof.Machine

open Sys2Proof

/-! ## Frames that leave, frames of a card, ABORT and deadlines -/

theorem wanes_markSent (s : State) (i : XtIx) : s.Wanes (s.markSent i) := by
  unfold State.markSent
  split
  next x hx =>
    split
    next c sp d hp =>
      have hreturned : s.Wanes (s.returnCmd (some c)) := wanes_of_same (fun _ => rfl) rfl fun _ => rfl
      exact hreturned.trans (wanes_setPhase_of_position (s := s.returnCmd (some c)) hx
        (by simp [Exchange.isEnded, hp]) (by simp [Exchange.position, hp]))
    next => exact wanes_refl s
  next => exact wanes_refl s

theorem wanes_respSent (s : State) (l : CtrlIx) : s.Wanes (s.respSent l) := by
  have hended : s.Wanes (s.onCtrl l (·.onLink (·.endSend))) := wanes_onCtrl ..
  unfold State.respSent
  dsimp only
  split
  · split
    next x hx => exact hended.trans (wanes_freeEntry hx fun _ h => by cases h)
    next => exact hended
  · exact hended

theorem wanes_takeDone (s : State) (n : SlotIx) (d : DoneFrame) : s.Wanes (s.takeDone n d) := by
  unfold State.takeDone
  split
  · split
    · split <;> exact wanes_endExchange ..
    · exact wanes_refl s
  · split
    · exact wanes_removeOrphan ..
    · exact wanes_refl s

theorem wanes_toCancelling {s : State} {i : XtIx} {x : Exchange} {former : Position} (hx : s.exchange i = some x)
    (hu : x.isEnded = false) (hp : x.position = some former) (sp : RespSpace) (d : Nat) :
    s.Wanes (s.toCancelling i x sp d former) :=
  (wanes_setPhase_of_position hx hu (by rw [hp]; rfl)).trans
    (wanes_of_core_eq ((core_withdrawSend ..).trans (core_queueSend ..)))

theorem wanes_abortEntry (s : State) (i : XtIx) : s.Wanes (s.abortEntry i).1 := by
  unfold State.abortEntry
  split
  next => exact wanes_refl s
  next x hx =>
    split
    next => exact wanes_endExchange ..
    next => exact wanes_endExchange ..
    next hp => exact wanes_toCancelling hx (by simp [Exchange.isEnded, hp]) (by simp [Exchange.position, hp]) _ _
    next hp => exact wanes_toCancelling hx (by simp [Exchange.isEnded, hp]) (by simp [Exchange.position, hp]) _ _
    next => exact wanes_refl s
    next => exact wanes_refl s
    next => exact wanes_refl s

theorem wanes_takeDeadline (s : State) (i : XtIx) : s.Wanes (s.takeDeadline i) := by
  unfold State.takeDeadline
  split
  next => exact wanes_refl s
  next x _ =>
    have hcancel : s.Wanes (s.queueCancel (s.relayTag i) x) := wanes_of_core_eq (core_queueCancel ..)
    split
    · exact hcancel.trans (wanes_endExchange ..)
    · exact hcancel.trans (wanes_endExchange ..)
    · exact wanes_endExchange ..
    · exact wanes_refl s
    · exact wanes_refl s
    · exact wanes_refl s

/-! ## Slots out of service -/

theorem wanes_endSlotWork (s : State) (n : SlotIx) (code : RelayCode) : s.Wanes (s.endSlotWork n code) := by
  have hended : s.Wanes (s.endList n code s.admissionOrder) := wanes_foldl (fun u i => by
    rcases own_or_not_own u n i with ⟨x, hx, hn, hu⟩ | hnot
    · rw [endForSlot_of_own hx hn hu]
      exact wanes_endExchange ..
    · rw [endForSlot_of_not_own hnot]
      exact wanes_refl u) _ s
  rw [endSlotWork_eq]
  exact hended.trans (wanes_onSlot (List.nil_sublist _) rfl)

theorem workAt_of_not_own {x : Exchange} {n : SlotIx} (h : x.id.slot = n → x.isEnded = true) (q : Option Position) :
    x.workAt n q = 0 :=
  if_neg fun ⟨hu, hn, _⟩ => by simp [h hn] at hu

/-- The end of a slot's work finds all of it. -/
theorem idle_endSlotWork {s : State} (hl : s.Listed) (n : SlotIx) (code : RelayCode) :
    (s.endSlotWork n code).Idle n := by
  intro i q
  have horphans : (s.endSlotWork n code).orphansOf n i q = 0 := by
    rw [State.orphansOf, slot_endSlotWork_self]
    rfl
  rw [State.work, horphans, Nat.add_zero]
  rcases own_or_not_own s n i with ⟨x, hx, hn, hu⟩ | hnot
  · obtain ⟨hended | hended, -⟩ := endSlotWork_of_own code (hl i x hx hu) hx hn hu
    all_goals exact (workOf_of_exchange hended n q).trans (workAt_of_ended rfl n q)
  · rcases exchange_eq_none_or_some s i with hx | ⟨x, hx⟩
    · have hfree := entry_of_identity_eq (congrFun (identity_endSlotWork s n code) i) hx
      exact workOf_of_free ((congrArg Entry.live hfree).trans hx) n q
    · obtain ⟨y, hy, hsame⟩ := keepsAt_endSlotWork code hnot x hx
      rw [workOf_of_exchange hy]
      refine workAt_of_not_own (fun hn => ?_) q
      rw [isEnded_of_sameOrReleased hsame]
      exact hnot x hx (id_of_sameOrReleased hsame ▸ hn)

/-- A slot that has become idle may leave service. -/
theorem wanes_leaveService {s u : State} {n : SlotIx} {f : SlotBlock → SlotBlock} (h : s.Wanes u)
    (hidle : s.Listed → u.Idle n) (horphans : (f (u.slot n)).orphans = (u.slot n).orphans) :
    s.Wanes (u.onSlot n f) := by
  have hsub : (f (u.slot n)).orphans.Sublist (u.slot n).orphans := horphans ▸ List.Sublist.refl _
  have hwork : ∀ m i q, (u.onSlot n f).work m i q ≤ u.work m i q := fun m i q =>
    Nat.add_le_add_left (orphansOf_onSlot_le hsub m i q) _
  refine ⟨fun m i q => (hwork m i q).trans (h.work m i q), fun hl => h.listed hl, fun hl m hm => ?_⟩
  have hkeeps : u.Idle m → (u.onSlot n f).Idle m := fun hu i q =>
    Nat.eq_zero_of_le_zero ((hu i q).symm ▸ hwork m i q)
  rw [slot_onSlot] at hm
  split at hm
  next hn => exact .inr (hkeeps (hn ▸ hidle hl))
  next => exact (h.service hl m hm).imp_right hkeeps

theorem wanes_faultSlot (s : State) (n : SlotIx) (cause : LastFault) : s.Wanes (s.faultSlot n cause) := by
  by_cases h : (s.slot n).state = .online
  · rw [faultSlot_of_online h]
    exact (wanes_leaveService (wanes_endSlotWork s n _) (fun hl => idle_endSlotWork hl n _) rfl).trans
      (wanes_of_core_eq (core_notifyManager ..))
  · rw [faultSlot_of_not_online h]
    exact wanes_refl s

theorem wanes_takeOrphanExpiry (s : State) (n : SlotIx) (t : RelayTag) : s.Wanes (s.takeOrphanExpiry n t) := by
  unfold State.takeOrphanExpiry
  split
  · exact (wanes_removeOrphan ..).trans (wanes_faultSlot ..)
  · exact wanes_refl s

theorem wanes_slotLinkUp (s : State) (n : SlotIx) : s.Wanes (s.slotLinkUp n) := by
  unfold State.slotLinkUp
  split
  · exact (wanes_setSlotState (.inl rfl)).trans (wanes_of_core_eq (core_notifyManager ..))
  · exact wanes_refl s

theorem wanes_escalate {s : State} {n : SlotIx} (h : (s.slot n).state ≠ .online) : s.Wanes (s.escalate n) :=
  ((wanes_setSlotState (.inr h)).trans (wanes_of_core_eq (core_notifyManager ..))).trans (wanes_clearReservation ..)

theorem wanes_resetSlot (s : State) (n : SlotIx) : s.Wanes (s.resetSlot n) := by
  by_cases h : (s.slot n).state = .online
  · rw [resetSlot_of_online h]
    exact (wanes_leaveService (wanes_endSlotWork s n _) (fun hl => idle_endSlotWork hl n _) rfl).trans
      (wanes_clearReservation ..)
  · rw [resetSlot_of_not_online h]
    exact (wanes_setSlotState (.inr h)).trans (wanes_clearReservation ..)

theorem wanes_acknowledge (s : State) (id : Byte) (n : SlotIx) : s.Wanes (s.acknowledge id n) := by
  unfold State.acknowledge
  split
  next h =>
    obtain ⟨w, hw⟩ := awaits_iff.mp h
    exact wanes_setSlotState (.inr (by simp [hw]))
  next => exact wanes_refl s

theorem wanes_clearSlot {s : State} {n : SlotIx} (h : (s.slot n).state ≠ .online) : s.Wanes (s.clearSlot n) := by
  unfold State.clearSlot
  split
  · exact (wanes_setSlotState (.inl rfl)).trans (wanes_of_core_eq (core_notifyManager ..))
  · exact wanes_setSlotState (.inr h)

/-! ## Reservations -/

theorem wanes_preempt (s : State) (n : SlotIx) (l : CtrlIx) : s.Wanes (s.preempt n l) := by
  refine wanes_foldl (fun u i => ?_) _ s
  unfold State.preemptOne
  split
  · split
    · exact wanes_endExchange ..
    · exact wanes_refl u
  · exact wanes_refl u

theorem wanes_makeHolder (s : State) (n : SlotIx) (l : CtrlIx) : s.Wanes (s.makeHolder n l) := by
  rw [makeHolder_eq]
  exact wanes_onResv ..

theorem wanes_handOverTo (s : State) (n : SlotIx) (ws : List CtrlIx) : s.Wanes (s.handOverTo n ws) := by
  induction ws generalizing s with
  | nil => exact wanes_onResv ..
  | cons w ws ih =>
    by_cases hfull : s.access w n = .full
    · rw [handOverTo_of_access hfull]
      exact (((wanes_onResv ..).trans (wanes_makeHolder ..)).trans (wanes_of_core_eq (core_notify ..))).trans
        (wanes_preempt ..)
    · rw [handOverTo_of_no_access hfull]
      exact (wanes_of_core_eq (core_notify ..)).trans (ih _)

theorem wanes_handOver (s : State) (n : SlotIx) : s.Wanes (s.handOver n) :=
  (wanes_onResv ..).trans (wanes_handOverTo ..)

theorem wanes_revokeLease (s : State) (n : SlotIx) : s.Wanes (s.revokeLease n) := by
  unfold State.revokeLease
  split
  · exact (wanes_of_core_eq (core_notify ..)).trans (wanes_handOver ..)
  · exact wanes_refl s

theorem wanes_dropLink (s : State) (l : CtrlIx) : s.Wanes (s.dropLink l) := by
  refine wanes_foldl (fun u n => ?_) _ s
  unfold State.dropLinkAt
  dsimp only
  split
  · exact (wanes_onResv ..).trans (wanes_handOver ..)
  · exact wanes_onResv ..

theorem wanes_takeTake (s : State) (l : CtrlIx) (tag : Byte) (n : SlotIx) : s.Wanes (s.takeTake l tag n) := by
  have hanswer : ∀ (u : State) r d, u.Wanes (u.answerResv l tag r d) := fun u r d =>
    wanes_of_core_eq (core_answerResv ..)
  unfold State.takeTake
  dsimp only
  split
  · exact hanswer ..
  · split
    · exact ((wanes_makeHolder ..).trans (hanswer ..)).trans (wanes_preempt ..)
    · split
      · exact (wanes_onResv ..).trans (hanswer ..)
      · split
        · exact hanswer ..
        · exact (wanes_onResv ..).trans (hanswer ..)

theorem wanes_takeRenew (s : State) (l : CtrlIx) (tag : Byte) (n : SlotIx) : s.Wanes (s.takeRenew l tag n) := by
  unfold State.takeRenew
  split
  · exact (wanes_onResv ..).trans (wanes_of_core_eq (core_answerResv ..))
  · exact wanes_of_core_eq (core_answerResv ..)

theorem wanes_takeDrop (s : State) (l : CtrlIx) (tag : Byte) (n : SlotIx) : s.Wanes (s.takeDrop l tag n) := by
  unfold State.takeDrop
  dsimp only
  split
  · exact (wanes_of_core_eq (core_answerResv ..)).trans (wanes_handOver ..)
  · split
    · exact (wanes_onResv ..).trans (wanes_of_core_eq (core_answerResv ..))
    · exact wanes_of_core_eq (core_answerResv ..)

/-! ## Teardown, RELAY_RESTART, ACTIVATE -/

theorem exchange_queueCancel (s : State) (t : RelayTag) (x : Exchange) (i : XtIx) :
    (s.queueCancel t x).exchange i = s.exchange i := by
  rw [State.exchange, entry_queueCancel, State.exchange]

theorem wanes_tearDownOne (s : State) (l : CtrlIx) (i : XtIx) : s.Wanes (s.tearDownOne l i) := by
  unfold State.tearDownOne
  split
  next x hx =>
    split
    · exact (wanes_of_core_eq (core_queueCancel ..)).trans
        (wanes_freeEntry ((exchange_queueCancel ..).trans hx) fun _ h => h)
    · exact wanes_refl s
  next => exact wanes_refl s

theorem wanes_departCtrl (s : State) (l : CtrlIx) (cause : DepartCause) : s.Wanes (s.departCtrl l cause) := by
  have hleft : s.Wanes (s.leftUp l) := (wanes_of_core_eq (core_withWaiting ..)).trans (wanes_onCtrl ..)
  have htorn : s.Wanes (s.tornDown l) :=
    (hleft.trans (wanes_foldl (fun u i => wanes_tearDownOne u l i) _ _)).trans (wanes_onCtrl ..)
  rw [departCtrl_eq]
  exact (htorn.trans (wanes_dropLink ..)).trans (wanes_of_core_eq (core_tellDeparture ..))

theorem wanes_restartOne (s : State) (i : XtIx) : s.Wanes (s.restartOne i) := by
  have hrestarted : ∀ x, s.exchange i = some x → s.Wanes (((s.queueCancel (s.relayTag i) x).closeSlotSide i x 0
      x.orphans).release x.id.link i (.relay .restarted)) := fun x hx =>
    (wanes_of_core_eq (core_queueCancel ..)).trans (wanes_release_of_hands
      (hands_closeSlotSide ((exchange_queueCancel ..).trans hx) 0 fun _ h => h) _ _)
  unfold State.restartOne
  split
  next => exact wanes_refl s
  next x hx =>
    split
    next => exact wanes_refl s
    next => exact wanes_release_of_hands (hands_refl s i) _ _
    next => exact hrestarted x hx
    next => exact hrestarted x hx
    next => exact hrestarted x hx
    next => exact hrestarted x hx

theorem wanes_restartAll (s : State) : s.Wanes s.restartAll :=
  ((wanes_foldl wanes_restartOne _ s).trans (wanes_foldl (fun u l => wanes_onCtrl u l _) _ _)).trans
    (wanes_foldl (fun u n => wanes_clearReservation u n .restart) _ _)

theorem wanes_disableSlot (s : State) (old : Bank) (n : SlotIx) : s.Wanes (s.disableSlot old n) := by
  unfold State.disableSlot
  split
  · refine wanes_foldl (fun u i => ?_) _ s
    unfold State.disableOne
    split
    · split
      · exact wanes_endExchange ..
      · exact wanes_refl u
    · exact wanes_refl u
  · exact wanes_refl s

theorem wanes_activateNow (s : State) (m : CtrlIx) : s.Wanes (s.activateNow m) := by
  have hcopied : s.Wanes { s with active := s.staged, epoch := s.epoch + 1 } :=
    wanes_of_same (fun _ => rfl) rfl fun _ => rfl
  exact (hcopied.trans (wanes_foldl (fun u n => wanes_disableSlot u s.active n) _ _)).trans
    (wanes_foldl (fun u l => wanes_of_core_eq (core_announce u m l)) _ _)

/-! ## Causes that may wait (R97), and links that leave and enter UP (R167, R168) -/

theorem wanes_takeAbort (s : State) (l : CtrlIx) (tag : Byte) : s.Wanes (s.takeAbort l tag) := by
  cases ht : s.tagged l tag with
  | none => exact takeAbort_of_untagged ht ▸ wanes_of_core_eq (core_queueReply ..)
  | some i =>
    exact takeAbort_of_tagged ht ▸ (wanes_abortEntry s i).trans (wanes_of_core_eq (core_queueReply ..))

theorem wanes_answer (s : State) (l : CtrlIx) (tag : Byte) (r : ReplyResult) (d : List Byte) :
    s.Wanes (s.answer l tag r d) := wanes_of_core_eq (core_answer ..)

theorem wanes_takeRestart (s : State) (l : CtrlIx) (tag : Byte) : s.Wanes (s.takeRestart l tag) := by
  unfold State.takeRestart
  split
  · exact (wanes_restartAll s).trans (wanes_answer ..)
  · exact wanes_answer ..

theorem wanes_takeSlotReset (s : State) (l : CtrlIx) (tag : Byte) (n : SlotIx) :
    s.Wanes (s.takeSlotReset l tag n) := by
  unfold State.takeSlotReset
  split
  · split
    · exact wanes_answer ..
    · exact (wanes_resetSlot s n).trans (wanes_answer ..)
  · exact wanes_answer ..

theorem wanes_takeWaiting (s : State) (w : WaitingCause) : s.Wanes (s.takeWaiting w) := by
  cases w with
  | abort l tag _ => exact wanes_takeAbort s l tag
  | deadline i => exact wanes_takeDeadline s i
  | done n d => exact wanes_takeDone s n d
  | departure l cause => exact wanes_departCtrl s l cause
  | restart l tag => exact wanes_takeRestart s l tag
  | slotReset l tag n => exact wanes_takeSlotReset s l tag n
  | faultFrame n code => exact wanes_faultSlot s n (.faultFrame code)
  | orphanExpired n t => exact wanes_takeOrphanExpiry s n t

theorem wanes_resolveWaiting (s : State) : s.Wanes s.resolveWaiting := by
  refine wanes_foldl (fun u w => ?_) _ s
  rw [resolveOne_eq]
  split
  · exact (wanes_of_core_eq (core_withWaiting ..)).trans (wanes_takeWaiting ..)
  · exact wanes_refl u

theorem wanes_arise (s : State) (w : WaitingCause) : s.Wanes (s.arise w) := by
  unfold State.arise
  split
  · exact wanes_of_core_eq (core_withWaiting ..)
  · exact wanes_takeWaiting s w

theorem wanes_departSlotLink (s : State) (n : SlotIx) (cause : DepartCause) : s.Wanes (s.departSlotLink n cause) := by
  have hlost : s.Wanes ((s.onSlot n fun b => { b.onLink (·.depart Config.slotBufferPlaces s.now cause) with
      sendQ := [] }).faultSlot n .linkLost) := (wanes_onSlot (List.Sublist.refl _) rfl).trans (wanes_faultSlot ..)
  unfold State.departSlotLink
  dsimp only
  split
  · exact hlost.trans (wanes_slotLinkUp ..)
  · exact hlost

theorem wanes_linkLeaves (s : State) (k : LinkId) (cause : DepartCause) : s.Wanes (s.linkLeaves k cause) := by
  cases k with
  | ctrl l =>
    unfold State.linkLeaves
    dsimp only
    split
    · exact wanes_refl s
    · exact wanes_arise ..
  | slot n => exact (wanes_departSlotLink ..).trans (wanes_resolveWaiting _)

theorem wanes_onLink (s : State) (k : LinkId) (f : LinkBlock → LinkBlock) : s.Wanes (s.onLink k f) :=
  wanes_of_core_eq (core_onLink ..)

theorem wanes_linkEntersUp (s : State) (k : LinkId) (size : Nat) : s.Wanes (s.linkEntersUp k size) := by
  have hup : s.Wanes (s.onLink k (·.toUp size)) := wanes_onLink ..
  cases k with
  | ctrl l => exact hup.trans (wanes_of_core_eq (core_notifyManager ..))
  | slot n => exact hup.trans (wanes_slotLinkUp ..)

theorem wanes_lineLost (s : State) (k : LinkId) : s.Wanes (s.lineLost k) := by
  have hstopped : s.Wanes (s.onLink k fun b => { b with lineTimer := none }) := wanes_onLink ..
  unfold State.lineLost
  dsimp only
  split
  · exact hstopped.trans (wanes_linkLeaves ..)
  · exact hstopped.trans (wanes_onLink ..)
  · exact hstopped

end Sys2Proof.Machine
end

section
/-! PROOFS. Every command but CMD, the issues and PARK lets the work of the slots wane (R127). The guards under which a
command runs its operation count here: a window expires only at a FAULTED slot, a pulse ends only at a RESETTING one,
and SLOT_CLEAR clears only a FAULTED one. -/

namespace Sys2Proof.Machine

open Sys2Proof

section Commands

variable (s : State)

theorem wanes_stay : LeadsTo s.Wanes s.stay := leadsTo_stay (wanes_refl s)

variable {s}

theorem wanes_complete {u : State} (h : s.Wanes u) : LeadsTo s.Wanes u.complete := by
  rintro t ht
  cases ht
  exact h.trans (wanes_of_core_eq (core_settle u))

theorem wanes_complete_of_core_eq {u : State} (h : u.core = s.core) : LeadsTo s.Wanes u.complete :=
  wanes_complete (wanes_of_core_eq h)

theorem wanes_atExpiry (e : Nat) {effect : State → State}
    (h : (s.atTime (max s.now e)).Wanes (effect (s.atTime (max s.now e)))) :
    LeadsTo s.Wanes (s.atExpiry e effect) := by
  unfold State.atExpiry
  dsimp only
  split
  · exact wanes_complete ((wanes_of_core_eq (core_atTime ..)).trans h)
  · exact wanes_stay s

variable (s)

/-! ## Pins and lines -/

/-- Nothing has any work after a reset. -/
theorem idle_resetWith (strap : CtrlIx) (n : SlotIx) : (State.resetWith strap).Idle n := by
  intro i q
  simp [State.work, State.workOf, State.orphansOf, State.exchange, State.entry, State.slot, State.resetWith,
    SlotBlock.reset]

theorem wanes_execHardwareReset (strap : CtrlIx) : LeadsTo s.Wanes (execHardwareReset strap s) := by
  rintro t ht
  cases ht
  have hidle : ∀ n, { State.resetWith strap with pending := s.pending }.Idle n := idle_resetWith strap
  refine ⟨fun n i q => (hidle n i q).symm ▸ Nat.zero_le _, fun _ i x hx hu => ?_, fun _ n _ => .inr (hidle n)⟩
  simp [State.exchange, State.entry, State.resetWith] at hx

theorem wanes_execLineLock (k : LinkId) : LeadsTo s.Wanes (execLineLock k s) := by
  unfold execLineLock
  split
  · exact wanes_stay s
  · exact wanes_complete (wanes_onLink ..)

theorem wanes_execLineUnlock (k : LinkId) : LeadsTo s.Wanes (execLineUnlock k s) := by
  unfold execLineUnlock
  split
  · exact wanes_complete (wanes_onLink ..)
  · exact wanes_stay s

theorem wanes_execLineLost (k : LinkId) : LeadsTo s.Wanes (execLineLost k s) := by
  unfold execLineLost
  split
  · exact wanes_atExpiry _ (wanes_lineLost ..)
  · exact wanes_stay s

theorem wanes_execCreditStall (k : LinkId) : LeadsTo s.Wanes (execCreditStall k s) := by
  unfold execCreditStall
  split
  · exact wanes_atExpiry _ ((wanes_onLink ..).trans (wanes_linkLeaves ..))
  · exact wanes_stay s

theorem wanes_frameArrives (k : LinkId) (a : Arrival) : LeadsTo s.Wanes (s.frameArrives k a) := by
  unfold State.frameArrives
  split
  · split
    · exact wanes_complete (wanes_linkLeaves ..)
    · exact wanes_complete (wanes_onLink ..)
  · exact wanes_stay s

theorem wanes_helloArrives (k : LinkId) (frame : List Byte) : LeadsTo s.Wanes (s.helloArrives k frame) := by
  unfold State.helloArrives
  split
  · exact wanes_complete (wanes_linkEntersUp ..)
  · split
    · exact wanes_stay s
    · exact wanes_complete (wanes_linkLeaves ..)
  · exact wanes_stay s

theorem wanes_received (k : LinkId) (frame : List Byte) : LeadsTo s.Wanes (if frame.head? = some helloKind then
    s.helloArrives k frame else s.frameArrives k (checkFrame k frame)) := by
  split
  · exact wanes_helloArrives s k frame
  · exact wanes_frameArrives s k _

/-! ## Frames of a controller -/

theorem wanes_tookFrame (l : CtrlIx) : s.Wanes (s.tookFrame l) := wanes_of_core_eq (core_tookFrame ..)

theorem wanes_execCmdOffered (l : CtrlIx) : LeadsTo s.Wanes (execCmdOffered l s) := by
  unfold execCmdOffered
  split
  · exact wanes_complete ((wanes_tookFrame s l).trans (wanes_onCtrl ..))
  · exact wanes_stay s

theorem wanes_execAbort (l : CtrlIx) : LeadsTo s.Wanes (execAbort l s) := by
  unfold execAbort
  split
  · dsimp only
    split
    · exact wanes_complete ((wanes_tookFrame s l).trans (wanes_arise ..))
    · exact wanes_complete ((wanes_tookFrame s l).trans (wanes_takeAbort ..))
  · exact wanes_stay s

theorem wanes_resvRequest (l : CtrlIx) (kind : ResvKind) {effect : Byte → State → SlotIx → State}
    (h : ∀ (u : State) tag n, u.Wanes (effect tag u n)) : LeadsTo s.Wanes (s.resvRequest l kind effect) := by
  unfold State.resvRequest
  split
  · split
    · unfold State.takeResv
      split
      · exact wanes_complete ((wanes_tookFrame s l).trans (h _ _ _))
      · exact wanes_complete_of_core_eq ((core_answerResv ..).trans (core_tookFrame ..))
    · exact wanes_stay s
  · exact wanes_stay s

theorem wanes_mgmtRequest (l : CtrlIx) (wanted : Byte → Bool) {effect : Byte → List Byte → State → State}
    (h : ∀ (u : State) tag args, u.Wanes (effect tag args u)) : LeadsTo s.Wanes (s.mgmtRequest l wanted effect) := by
  unfold State.mgmtRequest
  split
  · split
    · exact wanes_complete ((wanes_tookFrame s l).trans (h _ _ _))
    · exact wanes_stay s
  · exact wanes_stay s

theorem wanes_privileged (l : CtrlIx) (tag : Byte) {effect : State → State} (h : s.Wanes (effect s)) :
    s.Wanes (s.privileged l tag effect) := by
  unfold State.privileged
  split
  · exact h
  · exact wanes_answer ..

theorem wanes_noArgs (l : CtrlIx) (tag : Byte) (args : List Byte) {effect : State → State} (h : s.Wanes (effect s)) :
    s.Wanes (s.noArgs l tag args effect) := by
  unfold State.noArgs
  split
  · exact h
  · exact wanes_answer ..

theorem wanes_oneArg (l : CtrlIx) (tag : Byte) (args : List Byte) {effect : Byte → State → State}
    (h : ∀ a, s.Wanes (effect a s)) : s.Wanes (s.oneArg l tag args effect) := by
  unfold State.oneArg
  split
  · exact h _
  · exact wanes_answer ..

theorem wanes_execReadIdent (l : CtrlIx) : LeadsTo s.Wanes (execReadIdent l s) :=
  wanes_mgmtRequest s l _ fun u _ _ => wanes_noArgs u _ _ _ (wanes_answer ..)

theorem wanes_execReadEntry (l : CtrlIx) : LeadsTo s.Wanes (execReadEntry l s) := by
  refine wanes_mgmtRequest s l _ fun u _ _ => ?_
  split
  · split <;> exact wanes_answer ..
  · exact wanes_answer ..

theorem wanes_execReadSlot (l : CtrlIx) : LeadsTo s.Wanes (execReadSlot l s) := by
  refine wanes_mgmtRequest s l _ fun u _ _ => wanes_oneArg u _ _ _ fun _ => ?_
  split <;> exact wanes_answer ..

theorem wanes_execReadExchange (l : CtrlIx) : LeadsTo s.Wanes (execReadExchange l s) := by
  refine wanes_mgmtRequest s l _ fun u _ _ => wanes_oneArg u _ _ _ fun _ => ?_
  split <;> exact wanes_answer ..

theorem wanes_execReadStore (l : CtrlIx) : LeadsTo s.Wanes (execReadStore l s) :=
  wanes_mgmtRequest s l _ fun u _ _ => wanes_noArgs u _ _ _ (wanes_answer ..)

/-- The staged bank has no part in the work of the slots. -/
theorem wanes_stage (bank : Bank) : s.Wanes { s with staged := bank } :=
  wanes_of_same (fun _ => rfl) rfl fun _ => rfl

theorem wanes_execWriteEntry (l : CtrlIx) : LeadsTo s.Wanes (execWriteEntry l s) := by
  refine wanes_mgmtRequest s l _ fun u _ _ => wanes_privileged u _ _ ?_
  split
  · exact (wanes_stage u _).trans (wanes_answer ..)
  · exact wanes_answer ..

theorem wanes_execRevert (l : CtrlIx) : LeadsTo s.Wanes (execRevert l s) :=
  wanes_mgmtRequest s l _ fun u _ _ => wanes_privileged u _ _ (wanes_noArgs u _ _ _
    ((wanes_stage u _).trans (wanes_answer ..)))

theorem wanes_execActivate (l : CtrlIx) : LeadsTo s.Wanes (execActivate l s) := by
  refine wanes_mgmtRequest s l _ fun u _ _ => wanes_privileged u _ _ (wanes_noArgs u _ _ _ ?_)
  split
  · exact (wanes_activateNow u _).trans (wanes_answer ..)
  · exact wanes_answer ..

theorem wanes_execNoticeAck (l : CtrlIx) : LeadsTo s.Wanes (execNoticeAck l s) := by
  refine wanes_mgmtRequest s l _ fun u _ _ => wanes_privileged u _ _ (wanes_oneArg u _ _ _ fun id => ?_)
  split
  · exact (wanes_foldl (fun v n => wanes_acknowledge v id n) _ u).trans (wanes_answer ..)
  · exact wanes_answer ..

theorem wanes_execSlotClear (l : CtrlIx) : LeadsTo s.Wanes (execSlotClear l s) := by
  refine wanes_mgmtRequest s l _ fun u _ _ => wanes_privileged u _ _ (wanes_oneArg u _ _ _ fun a => ?_)
  split
  · exact wanes_answer ..
  · split
    next hfaulted => exact (wanes_clearSlot (by simp [hfaulted])).trans (wanes_answer ..)
    next => exact wanes_answer ..
    next => exact wanes_answer ..
    next => exact wanes_answer ..

theorem wanes_execSlotReset (l : CtrlIx) : LeadsTo s.Wanes (execSlotReset l s) := by
  refine wanes_mgmtRequest s l _ fun u _ _ => wanes_privileged u _ _ (wanes_oneArg u _ _ _ fun a => ?_)
  split
  · exact wanes_answer ..
  · exact wanes_arise ..

theorem wanes_execRelayRestart (l : CtrlIx) : LeadsTo s.Wanes (execRelayRestart l s) :=
  wanes_mgmtRequest s l _ fun u _ _ => wanes_privileged u _ _ (wanes_noArgs u _ _ _ (wanes_arise ..))

theorem wanes_execMgmtUnknownRequest (l : CtrlIx) : LeadsTo s.Wanes (execMgmtUnknownRequest l s) :=
  wanes_mgmtRequest s l _ fun _ _ _ => wanes_answer ..

/-! ## Frames that leave -/

theorem wanes_execSlotLinkSend (n : SlotIx) : LeadsTo s.Wanes (execSlotLinkSend n s) := by
  unfold execSlotLinkSend
  split
  · split
    · exact wanes_complete_of_core_eq (core_onSlot_onLink ..)
    · split
      · exact wanes_complete_of_core_eq (core_onSlot_onLink ..)
      · exact wanes_stay s
  · exact wanes_stay s

theorem wanes_execControllerLinkSend (l : CtrlIx) : LeadsTo s.Wanes (execControllerLinkSend l s) := by
  unfold execControllerLinkSend
  split
  · split
    · exact wanes_complete (wanes_onCtrl ..)
    · split
      · exact wanes_complete (wanes_onCtrl ..)
      · exact wanes_stay s
  · exact wanes_stay s

/-- The frame that has left a Slot Link leaves its queue. -/
theorem wanes_sent (n : SlotIx) : s.Wanes (s.onSlot n (·.sent)) := wanes_onSlot (List.Sublist.refl _) rfl

theorem wanes_execIssueSent (n : SlotIx) : LeadsTo s.Wanes (execIssueSent n s) := by
  unfold execIssueSent
  split
  · exact wanes_complete (((wanes_sent s n).trans (wanes_markSent ..)).trans (wanes_resolveWaiting _))
  · exact wanes_stay s

theorem wanes_execCancelSent (n : SlotIx) : LeadsTo s.Wanes (execCancelSent n s) := by
  unfold execCancelSent
  split
  · exact wanes_complete (wanes_sent s n)
  · exact wanes_stay s

theorem wanes_execKeepSent (n : SlotIx) : LeadsTo s.Wanes (execKeepSent n s) := by
  unfold execKeepSent
  split
  · exact wanes_complete (wanes_sent s n)
  · exact wanes_stay s

theorem wanes_execCreditSent (k : LinkId) : LeadsTo s.Wanes (execCreditSent k s) := by
  unfold execCreditSent
  split
  · exact wanes_complete (wanes_onLink ..)
  · exact wanes_stay s

theorem wanes_execReplySent (l : CtrlIx) : LeadsTo s.Wanes (execReplySent l s) := by
  unfold execReplySent
  split
  · exact wanes_complete (wanes_onCtrl ..)
  · exact wanes_stay s

theorem wanes_execNoticeSent (l : CtrlIx) : LeadsTo s.Wanes (execNoticeSent l s) := by
  unfold execNoticeSent
  split
  · exact wanes_complete (wanes_onCtrl ..)
  · exact wanes_stay s

theorem wanes_execRespSent (l : CtrlIx) : LeadsTo s.Wanes (execRespSent l s) := by
  unfold execRespSent
  split
  · exact wanes_complete (wanes_respSent ..)
  · exact wanes_stay s

/-! ## Frames of a card -/

theorem wanes_tookSlotFrame (n : SlotIx) : s.Wanes (s.tookSlotFrame n) := wanes_of_core_eq (core_tookSlotFrame ..)

theorem wanes_execDone (n : SlotIx) : LeadsTo s.Wanes (execDone n s) := by
  unfold execDone
  split
  · dsimp only
    split
    · exact wanes_complete ((wanes_tookSlotFrame s n).trans (wanes_arise ..))
    · exact wanes_complete ((wanes_tookSlotFrame s n).trans (wanes_takeDone ..))
  · exact wanes_stay s

theorem wanes_execFault (n : SlotIx) : LeadsTo s.Wanes (execFault n s) := by
  unfold execFault
  split
  · exact wanes_complete ((wanes_tookSlotFrame s n).trans (wanes_arise ..))
  · exact wanes_stay s

/-! ## Expiries -/

theorem wanes_execDeadlineExpiry (i : XtIx) : LeadsTo s.Wanes (execDeadlineExpiry i s) := by
  unfold execDeadlineExpiry
  split
  · exact wanes_atExpiry _ (wanes_arise ..)
  · exact wanes_stay s

theorem wanes_execOrphanExpiry (n : SlotIx) (t : RelayTag) : LeadsTo s.Wanes (execOrphanExpiry n t s) := by
  unfold execOrphanExpiry
  split
  · split
    · exact wanes_stay s
    · exact wanes_atExpiry _ (wanes_arise ..)
  · exact wanes_stay s

theorem wanes_execLeaseExpiry (n : SlotIx) : LeadsTo s.Wanes (execLeaseExpiry n s) := by
  unfold execLeaseExpiry
  split
  · exact wanes_atExpiry _ (wanes_revokeLease ..)
  · exact wanes_stay s

theorem wanes_execAcknowledgeWindowExpiry (n : SlotIx) : LeadsTo s.Wanes (execAcknowledgeWindowExpiry n s) := by
  unfold execAcknowledgeWindowExpiry
  split
  next a ha =>
    have hfaulted : ∀ e, ((s.atTime e).slot n).state ≠ .online := fun e =>
      (awaited?_eq_some_iff.mp ha : (s.slot n).state = _) ▸ (by simp)
    exact wanes_atExpiry _ (wanes_escalate (hfaulted _))
  next => exact wanes_stay s

theorem wanes_execPulseEnd (n : SlotIx) : LeadsTo s.Wanes (execPulseEnd n s) := by
  unfold execPulseEnd
  split
  next p hp =>
    have hresetting : ∀ e, ((s.atTime e).slot n).state ≠ .online := fun e => by
      rw [slot_atTime, hp]
      simp
    exact wanes_atExpiry _ (wanes_setSlotState (.inr (hresetting _)))
  next => exact wanes_stay s

end Commands

end Sys2Proof.Machine
end

section
/-! PROOFS. The invariants of the slots' work, in terms of how much there is of it (R12, R43, R44, R102, R127): a slot
out of service has none, an index has at most one over all slots, and a slot's positions are those of its work. -/

namespace Sys2Proof.Machine

open Sys2Proof

/-! ## The invariants, in terms of the work -/

/-- The unended exchange and the orphans of slot n with an index. -/
def State.load (s : State) (n : SlotIx) (i : XtIx) : Nat :=
  (if s.exchangeIs i (fun x => x.id.slot == n && !x.isEnded) = true then 1 else 0)
    + (s.slot n).orphans.countP fun o => o.tag.index == i

theorem workAt_sum (x : Exchange) (n : SlotIx) :
    x.workAt n none + x.workAt n (some .active) + x.workAt n (some .parked)
      = if (x.id.slot == n && !x.isEnded) = true then 1 else 0 := by
  by_cases hwork : x.isEnded = false ∧ x.id.slot = n
  · rcases hp : x.position with _ | _ | _ <;> simp [Exchange.workAt, hwork, hp]
  · have hnone : ∀ q, x.workAt n q = 0 := fun q => if_neg fun ⟨hu, hn, _⟩ => hwork ⟨hu, hn⟩
    rw [hnone, hnone, hnone, if_neg (by simpa [and_comm] using hwork)]

/-- The load is the work in all positions. -/
theorem load_eq_work (s : State) (n : SlotIx) (i : XtIx) :
    s.load n i = s.work n i none + s.work n i (some .active) + s.work n i (some .parked) := by
  have horphans : s.orphansOf n i none + s.orphansOf n i (some .active) + s.orphansOf n i (some .parked)
      = (s.slot n).orphans.countP fun o => o.tag.index == i := by
    unfold State.orphansOf
    induction (s.slot n).orphans with
    | nil => rfl
    | cons o os ih =>
      rw [List.countP_cons, List.countP_cons, List.countP_cons, List.countP_cons, ← ih]
      cases o.former <;> cases o.tag.index == i <;> simp <;> omega
  have hexchange : s.workOf n i none + s.workOf n i (some .active) + s.workOf n i (some .parked)
      = if s.exchangeIs i (fun x => x.id.slot == n && !x.isEnded) = true then 1 else 0 := by
    rcases exchange_eq_none_or_some s i with hx | ⟨x, hx⟩
    · simp [State.workOf, State.exchangeIs, hx]
    · simp only [State.workOf, State.exchangeIs, hx]
      exact workAt_sum x n
  rw [State.load, ← horphans, ← hexchange]
  unfold State.work
  omega

theorem load_eq_zero_of_idle {s : State} {n : SlotIx} (h : s.Idle n) (i : XtIx) : s.load n i = 0 := by
  rw [load_eq_work, h, h, h]

theorem load_le_of_work_le {s t : State} {n : SlotIx} {i : XtIx} (h : ∀ q, t.work n i q ≤ s.work n i q) :
    t.load n i ≤ s.load n i := by
  rw [load_eq_work, load_eq_work]
  exact Nat.add_le_add (Nat.add_le_add (h _) (h _)) (h _)

/-- A slot out of service has no load (R127). -/
theorem outOfServiceOk_iff {s : State} :
    s.outOfServiceOk ↔ ∀ n, (s.slot n).state ≠ .online → ∀ i, s.load n i = 0 := by
  refine forall_congr' fun n => imp_congr_right fun _ => ?_
  have horphans : (s.slot n).orphans = [] ↔ ∀ i, ((s.slot n).orphans.countP fun o => o.tag.index == i) = 0 := by
    refine ⟨fun h i => by rw [h]; rfl, fun h => List.eq_nil_iff_forall_not_mem.mpr fun o ho => ?_⟩
    exact List.countP_eq_zero.mp (h o.tag.index) o ho (beq_self_eq_true _)
  simp only [State.load, Nat.add_eq_zero_iff, ite_eq_right_iff, Nat.one_ne_zero, imp_false, Bool.not_eq_true,
    forall_and, horphans]
  exact and_comm

/-- An index has a load of one at most, over all slots (R12, R102). -/
theorem orphansOk_iff {s : State} : s.orphansOk ↔ ∀ i, ∑ n, s.load n i ≤ 1 := by
  refine forall_congr' fun i => ?_
  have horphans : s.orphansAt i = ∑ n, (s.slot n).orphans.countP fun o => o.tag.index == i := by
    rw [State.orphansAt, List.countP_flatMap, Fin.sum_univ_def]
    rfl
  have hexchange : (∑ n, if s.exchangeIs i (fun x => x.id.slot == n && !x.isEnded) = true then 1 else 0)
      = if s.exchangeIs i (fun x => !x.isEnded) = true then 1 else 0 := by
    rcases exchange_eq_none_or_some s i with hx | ⟨x, hx⟩
    · simp [State.exchangeIs, hx]
    · cases hu : x.isEnded <;> simp [State.exchangeIs, hx, hu]
  simp only [State.load]
  rw [Finset.sum_add_distrib, hexchange, horphans, Nat.add_comm]

/-- An entry holds a position of a slot. -/
def Entry.holds (n : SlotIx) (p : Position) (e : Entry) : Bool :=
  e.live.elim false fun x => x.id.slot == n && x.position == some p

theorem positions_eq_countP (s : State) (n : SlotIx) (p : Position) :
    s.positions n p = s.entries.toList.countP (Entry.holds n p) + (s.slot n).orphans.countP (·.former == p) := by
  unfold State.positions
  congr 2
  funext e
  unfold Entry.holds
  cases e.live <;> rfl

theorem countP_eq_sum {α : Type} (p : α → Bool) (as : List α) :
    as.countP p = (as.map fun a => if p a = true then 1 else 0).sum := by
  induction as with
  | nil => rfl
  | cons a as ih => rw [List.countP_cons, List.map_cons, List.sum_cons, ih, Nat.add_comm]

theorem isEnded_of_position {x : Exchange} {p : Position} (h : x.position = some p) : x.isEnded = false := by
  unfold Exchange.position at h
  split at h <;> simp_all [Exchange.isEnded]

/-- An entry with a position is work: its exchange has not ended. -/
theorem workOf_eq_holds (s : State) (n : SlotIx) (p : Position) (i : XtIx) :
    s.workOf n i (some p) = if (s.entry i).holds n p = true then 1 else 0 := by
  unfold State.workOf Entry.holds State.exchange
  rcases (s.entry i).live with _ | x
  · rfl
  · have hu : x.position = some p → x.isEnded = false := isEnded_of_position
    simp only [Option.elim_some, Exchange.workAt, Bool.and_eq_true, beq_iff_eq]
    exact if_congr (by tauto) rfl rfl

theorem positions_eq_sum (s : State) (n : SlotIx) (p : Position) : s.positions n p = ∑ i, s.work n i (some p) := by
  have horphans : ∑ i, s.orphansOf n i (some p) = (s.slot n).orphans.countP (·.former == p) := by
    unfold State.orphansOf
    induction (s.slot n).orphans with
    | nil => simp
    | cons o os ih =>
      simp only [List.countP_cons, Finset.sum_add_distrib, ih]
      by_cases hp : o.former = p <;> simp [hp]
  unfold State.work
  rw [positions_eq_countP, Finset.sum_add_distrib, horphans, countP_eq_sum, sum_entries]
  simp only [workOf_eq_holds]

end Sys2Proof.Machine
end

section
/-! PROOFS. Every step keeps what bounds the work of the slots (R12, R43, R44, R102, R127): an admission, an issue and a
PARK add to it within the bounds, and no other event adds to it. -/

namespace Sys2Proof.Machine

open Sys2Proof

/-! ## What keeps the invariants -/

/-- The positions of a kind that a slot has at most (R43, R44, Table 9.1). -/
def Position.bound : Position → Nat
  | .active => 8
  | .parked => 16

theorem positionsOk_iff {s : State} : s.positionsOk ↔ ∀ n p, s.positions n p ≤ p.bound := by
  refine forall_congr' fun n => ⟨fun ⟨hactive, hparked⟩ p => ?_, fun h => ⟨h .active, h .parked⟩⟩
  cases p with
  | active => exact hactive
  | parked => exact hparked

/-- From s to t the three invariants of a slot's work are kept, where the active bank is within range (R142). -/
structure State.KeepsWork (s t : State) : Prop where
  outOfService : s.outOfServiceOk → t.outOfServiceOk
  orphans : s.orphansOk → t.orphansOk
  positions : s.active.inRange → s.positionsOk → t.positionsOk

theorem outOfServiceOk_of_load_le {s t : State} (hload : ∀ n i, t.load n i ≤ s.load n i)
    (hstate : ∀ n, (t.slot n).state ≠ .online → (s.slot n).state ≠ .online ∨ t.Idle n)
    (h : s.outOfServiceOk) : t.outOfServiceOk := by
  rw [outOfServiceOk_iff] at h ⊢
  intro n hn i
  rcases hstate n hn with hs | hidle
  · exact Nat.eq_zero_of_le_zero (h n hs i ▸ hload n i)
  · exact load_eq_zero_of_idle hidle i

theorem orphansOk_of_load_le {s t : State} (hload : ∀ n i, t.load n i ≤ s.load n i) (h : s.orphansOk) :
    t.orphansOk := by
  rw [orphansOk_iff] at h ⊢
  exact fun i => (Finset.sum_le_sum fun n _ => hload n i).trans (h i)

theorem positions_le_of_work_le {s t : State} {n : SlotIx} {p : Position}
    (h : ∀ i, t.work n i (some p) ≤ s.work n i (some p)) : t.positions n p ≤ s.positions n p := by
  rw [positions_eq_sum, positions_eq_sum]
  exact Finset.sum_le_sum fun i _ => h i

theorem positionsOk_of_positions_le {s t : State} (hle : ∀ n p, t.positions n p ≤ s.positions n p)
    (h : s.positionsOk) : t.positionsOk := by
  rw [positionsOk_iff] at h ⊢
  exact fun n p => (hle n p).trans (h n p)

theorem keepsWork_of_wanes {s t : State} (hl : s.Listed) (h : s.Wanes t) : s.KeepsWork t where
  outOfService := outOfServiceOk_of_load_le (fun n i => load_le_of_work_le (h.work n i)) (h.service hl)
  orphans := orphansOk_of_load_le fun n i => load_le_of_work_le (h.work n i)
  positions := fun _ => positionsOk_of_positions_le fun n _ => positions_le_of_work_le fun i => h.work n i _

/-- States with one core have the same invariants. -/
theorem keepsWork_of_core_eq {s t : State} (h : t.core = s.core) : s.KeepsWork t where
  outOfService := outOfServiceOk_of_load_le (fun n i => load_le_of_work_le ((wanes_of_core_eq h).work n i))
    fun n hn => .inl (state_of_duty_eq (duty_of_core_eq h n) ▸ hn)
  orphans := orphansOk_of_load_le fun n i => load_le_of_work_le ((wanes_of_core_eq h).work n i)
  positions := fun _ => positionsOk_of_positions_le fun n _ =>
    positions_le_of_work_le fun i => (wanes_of_core_eq h).work n i _

/-- What an operation keeps is kept by its event: the state before it may be changed outside its core, and so may
the state after it. -/
theorem keepsWork_between {s s' t' t : State} (h : s'.KeepsWork t') (hs : s'.core = s.core) (ht : t.core = t'.core) :
    s.KeepsWork t where
  outOfService := fun hw => (keepsWork_of_core_eq ht).outOfService (h.outOfService
    ((keepsWork_of_core_eq hs).outOfService hw))
  orphans := fun hw => (keepsWork_of_core_eq ht).orphans (h.orphans ((keepsWork_of_core_eq hs).orphans hw))
  positions := fun hr hw => by
    have hactive : s'.active = s.active := congrArg (fun c => c.2.2.2.1) hs
    have hr' : s'.active.inRange := hactive ▸ hr
    have hw' : s'.positionsOk := (keepsWork_of_core_eq hs).positions hr hw
    exact positionsOk_of_positions_le
      (fun n _ => positions_le_of_work_le fun i => (wanes_of_core_eq ht).work n i _) (h.positions hr' hw')

theorem keepsWork_complete {s s' t : State} (h : s'.KeepsWork t) (hs : s'.core = s.core) :
    LeadsTo s.KeepsWork t.complete := by
  rintro u hu
  cases hu
  exact keepsWork_between h hs (core_settle t)

theorem keepsWork_stay (s : State) : LeadsTo s.KeepsWork s.stay := leadsTo_stay (keepsWork_of_core_eq rfl)

theorem load_of_exchange {s : State} {i : XtIx} {x : Exchange} (hx : s.exchange i = some x) (n : SlotIx) :
    s.load n i = (if (x.id.slot == n && !x.isEnded) = true then 1 else 0)
      + (s.slot n).orphans.countP fun o => o.tag.index == i := by
  simp only [State.load, State.exchangeIs, hx]

theorem load_of_same {s t : State} {n : SlotIx} {i : XtIx} (hx : t.exchange i = s.exchange i)
    (hslot : (t.slot n).duty = (s.slot n).duty) : t.load n i = s.load n i := by
  have hexchange : ∀ p, t.exchangeIs i p = s.exchangeIs i p := fun p => by
    rw [State.exchangeIs, hx, State.exchangeIs]
  rw [State.load, hexchange, orphans_of_duty_eq hslot, State.load]

theorem work_of_same {s t : State} {n : SlotIx} {i : XtIx} (hx : t.exchange i = s.exchange i)
    (hslot : (t.slot n).duty = (s.slot n).duty) (q : Option Position) : t.work n i q = s.work n i q := by
  rw [State.work, State.work, workOf_of_exchange_eq hx, orphansOf_of_duty_eq hslot]

/-! ## Issues and PARKs: an exchange takes a position of its slot -/

/-- From s to t the exchange x of an index becomes y, which holds the position p of the same slot; nothing else of the
slots' work changes. -/
structure State.Places (s t : State) (i : XtIx) (x y : Exchange) (p : Position) : Prop where
  before : s.exchange i = some x
  unended : x.isEnded = false
  after : t.exchange i = some y
  slot : y.id.slot = x.id.slot
  position : y.position = some p
  others : ∀ j, j ≠ i → t.exchange j = s.exchange j
  slots : ∀ n, (t.slot n).duty = (s.slot n).duty

section Places

variable {s t : State} {i : XtIx} {x y : Exchange} {p : Position}

theorem load_of_places (h : s.Places t i x y p) (n : SlotIx) (j : XtIx) : t.load n j = s.load n j := by
  by_cases hj : j = i
  · subst hj
    rw [load_of_exchange h.after, load_of_exchange h.before, h.slot, h.unended, isEnded_of_position h.position,
      orphans_of_duty_eq (h.slots n)]
  · exact load_of_same (h.others j hj) (h.slots n)

theorem work_le_of_places (h : s.Places t i x y p) (n : SlotIx) (j : XtIx) (r : Position) :
    t.work n j (some r) ≤ s.work n j (some r) + if j = i then (if x.id.slot = n ∧ p = r then 1 else 0) else 0 := by
  by_cases hj : j = i
  · subst hj
    have hafter : t.workOf n j (some r) = if x.id.slot = n ∧ p = r then 1 else 0 := by
      simp [workOf_of_exchange h.after, Exchange.workAt, isEnded_of_position h.position, h.slot, h.position]
    rw [State.work, State.work, hafter, orphansOf_of_duty_eq (h.slots n), if_pos rfl]
    omega
  · exact (work_of_same (h.others j hj) (h.slots n) _).le.trans (Nat.le_add_right _ _)

theorem positions_le_of_places (h : s.Places t i x y p) (n : SlotIx) (r : Position) :
    t.positions n r ≤ s.positions n r + if x.id.slot = n ∧ p = r then 1 else 0 := by
  calc t.positions n r = ∑ j, t.work n j (some r) := positions_eq_sum ..
    _ ≤ ∑ j, (s.work n j (some r) + if j = i then (if x.id.slot = n ∧ p = r then 1 else 0) else 0) :=
      Finset.sum_le_sum fun j _ => work_le_of_places h n j r
    _ = s.positions n r + if x.id.slot = n ∧ p = r then 1 else 0 := by
      rw [Finset.sum_add_distrib, Finset.sum_ite_eq' Finset.univ i, if_pos (Finset.mem_univ i), positions_eq_sum]

/-- An exchange takes a position while one of its slot is left. -/
theorem keepsWork_of_places (h : s.Places t i x y p)
    (hroom : s.active.inRange → s.positions x.id.slot p < p.bound) : s.KeepsWork t where
  outOfService := outOfServiceOk_of_load_le (fun n j => (load_of_places h n j).le)
    fun n hn => .inl (state_of_duty_eq (h.slots n) ▸ hn)
  orphans := orphansOk_of_load_le fun n j => (load_of_places h n j).le
  positions := fun hr hs => by
    rw [positionsOk_iff] at hs ⊢
    intro n r
    have hle := positions_le_of_places h n r
    split at hle
    next htaken =>
      obtain ⟨rfl, rfl⟩ := htaken
      exact hle.trans (hroom hr)
    next => exact hle.trans (hs n r)

end Places

theorem limits_of_inRange {s : State} (h : s.active.inRange) (n : SlotIx) :
    (s.slotConfig n).window ≤ 8 ∧ (s.slotConfig n).parkedLimit ≤ 16 := by
  have hslot : (s.slotConfig n).inRange = true := h.1 n
  simp only [SlotConfig.inRange, Bool.and_eq_true, decide_eq_true_eq] at hslot
  omega

/-- The window of the slot of the exchange at an index has a position left (R43). -/
def State.windowOpen (s : State) (i : XtIx) : Prop :=
  ∀ x, s.exchange i = some x → s.windowCount x.id.slot < (s.slotConfig x.id.slot).window

theorem places_issueExchange {s : State} {i : XtIx} {x : Exchange} {c : CmdSpace} (hx : s.exchange i = some x)
    (hp : x.phase = .queued c) (pool : Pool) : s.Places (s.issueExchange i pool) i x
      (x.withPhase (.active (some c) ⟨x.need, pool⟩ (s.activeDeadlineFrom x.id.slot))) .active := by
  rw [issueExchange_of_queued hx hp]
  refine ⟨hx, by simp [Exchange.isEnded, hp], ?_, rfl, rfl, fun j hj => ?_, fun n => ?_⟩
  · rw [exchange_takeResp, exchange_onSlot, exchange_setEntry_self, Exchange.withPhase]
  · rw [exchange_takeResp, exchange_onSlot, exchange_setEntry_ne _ _ hj.symm]
  · rw [slot_takeResp, slot_onSlot, slot_setEntry]
    split
    next h =>
      subst h
      rfl
    next => rfl

theorem keepsWork_issueExchange {s : State} {i : XtIx} (h : s.windowOpen i) (pool : Pool) :
    s.KeepsWork (s.issueExchange i pool) := by
  by_cases hq : ∃ x c, s.exchange i = some x ∧ x.phase = .queued c
  case neg =>
    rw [issueExchange_of_not_queued hq]
    exact keepsWork_of_core_eq rfl
  obtain ⟨x, c, hx, hp⟩ := hq
  exact keepsWork_of_places (places_issueExchange hx hp pool) fun hr =>
    (h x hx).trans_le (limits_of_inRange hr x.id.slot).1

/-- A Slot Queue lists exchanges of its slot (R41). -/
theorem slot_of_mem_queue {s : State} (hc : s.collectionsOk) {n : SlotIx} {i : XtIx} {x : Exchange}
    (hi : i ∈ (s.slot n).queue) (hx : s.exchange i = some x) : x.id.slot = n := by
  obtain ⟨-, hqueues, -⟩ := hc
  have hlisted := ((hqueues n).2 i).mp hi
  simp only [State.exchangeIs, hx, Bool.and_eq_true, beq_iff_eq] at hlisted
  exact hlisted.1

/-- The window of a slot with a candidate is open to all that its queue lists (R45). -/
theorem windowOpen_of_candidate {s : State} (hc : s.collectionsOk) {n : SlotIx} {h i : XtIx}
    (hcand : s.candidate n = some h) (hi : i ∈ (s.slot n).queue) : s.windowOpen i := by
  intro x hx
  obtain ⟨-, -, hwindow, -⟩ := candidate_eq_some_iff.mp hcand
  rwa [slot_of_mem_queue hc hi hx]

theorem windowOpen_of_isWaiting {s : State} {i : XtIx} (h : s.isWaiting i = true) : s.windowOpen i := by
  intro x hx
  obtain ⟨y, hy, hcand, -⟩ := isWaiting_eq_true_iff.mp h
  obtain rfl : x = y := Option.some.inj (hx.symm.trans hy)
  obtain ⟨-, -, hwindow, -⟩ := candidate_eq_some_iff.mp hcand
  exact hwindow

theorem keepsWork_execIssue {s : State} (hc : s.collectionsOk) (n : SlotIx) :
    LeadsTo s.KeepsWork (execIssue n s) := by
  unfold execIssue
  split
  next i hcand =>
    obtain ⟨-, -, -, hhead⟩ := candidate_eq_some_iff.mp hcand
    have hopen : s.windowOpen i := windowOpen_of_candidate hc hcand (List.mem_of_mem_head? hhead)
    split
    · split
      · exact keepsWork_complete (keepsWork_issueExchange hopen _) rfl
      · exact keepsWork_stay s
    · exact keepsWork_stay s
  next => exact keepsWork_stay s

theorem keepsWork_execGeneralGrant (s : State) : LeadsTo s.KeepsWork (execGeneralGrant s) := by
  unfold execGeneralGrant
  split
  next i hserves =>
    obtain ⟨holdest, -⟩ := generalServes_eq_some_iff.mp hserves
    exact keepsWork_complete (keepsWork_issueExchange (windowOpen_of_isWaiting (List.find?_some holdest)) _) rfl
  next => exact keepsWork_stay s

theorem keepsWork_execReserveGrant (s : State) (l : CtrlIx) : LeadsTo s.KeepsWork (execReserveGrant l s) := by
  unfold execReserveGrant
  split
  · split
    next hgrant => exact keepsWork_complete (keepsWork_issueExchange (windowOpen_of_isWaiting hgrant.1) _) rfl
    next => exact keepsWork_stay s
  · exact keepsWork_stay s

/-- The exchange that overtakes is behind a candidate of its slot (R47). -/
theorem windowOpen_of_overtaker {s : State} (hc : s.collectionsOk) {n : SlotIx} {i : XtIx}
    (h : s.overtaker n = some i) : s.windowOpen i := by
  cases hw : s.waitingCandidate n with
  | none => simp [State.overtaker, hw] at h
  | some head =>
    rw [overtaker_of_waiting_head hw] at h
    obtain ⟨hcand, -⟩ := waitingCandidate_eq_some_iff.mp hw
    exact windowOpen_of_candidate hc hcand (List.mem_of_mem_tail (List.mem_of_find?_eq_some h))

theorem keepsWork_execOvertakingIssue {s : State} (hc : s.collectionsOk) (n : SlotIx) :
    LeadsTo s.KeepsWork (execOvertakingIssue n s) := by
  unfold execOvertakingIssue
  split
  next i hi =>
    split
    · exact keepsWork_complete (keepsWork_issueExchange (windowOpen_of_overtaker hc hi) _) rfl
    · exact keepsWork_stay s
  next => exact keepsWork_stay s

theorem places_park {s : State} {i : XtIx} {x : Exchange} {sp : RespSpace} {d : Nat} (hx : s.exchange i = some x)
    (hp : x.phase = .active none sp d) (e : Nat) :
    s.Places (s.setPhase i (.parked sp e)) i x (x.withPhase (.parked sp e)) .parked := by
  rw [setPhase_of_exchange hx]
  exact ⟨hx, by simp [Exchange.isEnded, hp], exchange_setEntry_self .., rfl, rfl,
    fun j hj => exchange_setEntry_ne _ _ hj.symm, fun n => by rw [slot_setEntry]⟩

/-- A PARK parks below the parked limit only (R55). -/
theorem keepsWork_takePark (s : State) (n : SlotIx) (t : RelayTag) : s.KeepsWork (s.takePark n t) := by
  by_cases hsent : ∃ x sp d, s.exchange t.index = some x ∧ x.phase = .active none sp d ∧ s.tagNames n t x = true
  case neg =>
    rw [takePark_discarded fun x sp d hx hp => Bool.eq_false_iff.mpr fun hn => hsent ⟨x, sp, d, hx, hp, hn⟩]
    exact keepsWork_of_core_eq rfl
  obtain ⟨x, sp, d, hx, hp, hn⟩ := hsent
  obtain ⟨hslot, -⟩ := tagNames_iff.mp hn
  rw [takePark_of_sent hx hp hn]
  split
  next hbelow =>
    exact keepsWork_between (keepsWork_of_places (places_park hx hp _) fun hr =>
      hslot ▸ hbelow.trans_le (limits_of_inRange hr n).2) rfl (core_withdrawSend ..)
  next =>
    split
    · exact keepsWork_of_core_eq rfl
    · exact keepsWork_of_core_eq (core_queueSend ..)

theorem keepsWork_execPark (s : State) (n : SlotIx) : LeadsTo s.KeepsWork (execPark n s) := by
  unfold execPark
  split
  · exact keepsWork_complete (keepsWork_takePark ..) (core_tookSlotFrame ..)
  · exact keepsWork_stay s

/-! ## Admissions: an exchange begins at a slot in service, on an index without work -/

/-- An admission takes the index that the Exchange Table gives (R13, R36). -/
theorem allocatable_of_admissionCheck {s : State} {l : CtrlIx} {c : CmdFrame} {n : SlotIx} {i : XtIx}
    (h : s.admissionCheck l c = .ok (n, i)) : s.allocatable = some i := by
  by_cases hlen : 256 < c.payload.length ∨ 256 < c.maxResp
  · cases (admissionCheck_badLength hlen).symm.trans h
  obtain ⟨hpayload, hmax⟩ := not_or.mp hlen
  rw [Nat.not_lt] at hpayload hmax
  cases hslot : slotOfByte c.slotAddr with
  | none => cases (admissionCheck_noSlot hpayload hmax hslot).symm.trans h
  | some m =>
    rw [admissionCheck_eq_firstFailing hpayload hmax hslot] at h
    obtain ⟨-, hplace⟩ := passed_of_firstFailing h
    unfold State.placeAt at hplace
    split at hplace
    next j hj =>
      cases hplace
      exact hj
    next => cases hplace

theorem online_of_admissionCheck {s : State} {l : CtrlIx} {c : CmdFrame} {n : SlotIx} {i : XtIx}
    (h : s.admissionCheck l c = .ok (n, i)) : (s.slot n).state = .online := by
  have hservice := passed_of_admissionCheck h ((s.slot n).state != .online, .slotUnavailable)
    (by simp [State.tableChecks])
  simpa using hservice

/-- An index that is FREE and not fenced has no load (R12, R13). -/
theorem load_of_allocatable {s : State} {i : XtIx} (h : s.allocatable = some i) (n : SlotIx) : s.load n i = 0 := by
  obtain ⟨hfree, hfence, -⟩ := allocatable_eq_some_iff.mp h
  have horphans : ∀ o ∈ (s.slot n).orphans, ¬ (o.tag.index == i) = true := by
    rw [fenced_eq, List.any_eq_false] at hfence
    have hslot := hfence n (List.mem_finRange n)
    rw [Bool.not_eq_true, List.any_eq_false] at hslot
    exact hslot
  simp [State.load, State.exchangeIs, hfree, List.countP_eq_zero.mpr horphans]

section Admission

variable {s : State} {l : CtrlIx} {c : CmdFrame} {n : SlotIx} {i : XtIx}

theorem duty_admitCmd (m : SlotIx) : ((s.admitCmd l c n i).slot m).duty = (s.slot m).duty := by
  rw [slot_admitCmd]
  split
  next h =>
    subst h
    rfl
  next => rfl

/-- The admitted exchange is a load of one at its slot. -/
theorem load_admitCmd (h : s.allocatable = some i) (m : SlotIx) (j : XtIx) :
    (s.admitCmd l c n i).load m j = s.load m j + if j = i ∧ n = m then 1 else 0 := by
  by_cases hj : j = i
  · subst hj
    have hbefore := load_of_allocatable h m
    rw [State.load, Nat.add_eq_zero_iff] at hbefore
    rw [load_of_exchange (exchange_admitCmd_self ..), orphans_of_duty_eq (duty_admitCmd m), hbefore.2,
      load_of_allocatable h m]
    simp [State.admittedExchange, Exchange.isEnded]
  · rw [load_of_same (exchange_admitCmd_ne s l c n hj) (duty_admitCmd m), if_neg fun h => hj h.1]
    rfl

/-- A QUEUED exchange holds no position. -/
theorem positions_admitCmd_le (m : SlotIx) (p : Position) : (s.admitCmd l c n i).positions m p ≤ s.positions m p := by
  refine positions_le_of_work_le fun j => ?_
  by_cases hj : j = i
  · subst hj
    have hqueued : (s.admitCmd l c n j).workOf m j (some p) = 0 := by
      rw [workOf_of_exchange (exchange_admitCmd_self ..)]
      exact if_neg fun ⟨_, _, hp⟩ => by cases hp
    rw [State.work, hqueued, orphansOf_of_duty_eq (duty_admitCmd m), Nat.zero_add]
    exact Nat.le_add_left _ _
  · exact (work_of_same (exchange_admitCmd_ne s l c n hj) (duty_admitCmd m) _).le

theorem keepsWork_admitCmd (h : s.admissionCheck l c = .ok (n, i)) : s.KeepsWork (s.admitCmd l c n i) where
  outOfService := fun hs => by
    rw [outOfServiceOk_iff] at hs ⊢
    intro m hm j
    rw [state_of_duty_eq (duty_admitCmd m)] at hm
    rw [load_admitCmd (allocatable_of_admissionCheck h), hs m hm j, if_neg]
    rintro ⟨-, rfl⟩
    exact hm (online_of_admissionCheck h)
  orphans := fun hs => by
    rw [orphansOk_iff] at hs ⊢
    have hfree := allocatable_of_admissionCheck h
    intro j
    simp only [load_admitCmd hfree]
    by_cases hj : j = i
    · subst hj
      simp [load_of_allocatable hfree]
    · simpa [hj] using hs j
  positions := fun _ => positionsOk_of_positions_le positions_admitCmd_le

end Admission

theorem keepsWork_takeCmd (s : State) (l : CtrlIx) (c : CmdFrame) : s.KeepsWork (s.takeCmd l c) := by
  cases hcheck : s.admissionCheck l c with
  | error code =>
    exact takeCmd_of_refused hcheck ▸ keepsWork_of_core_eq ((core_queueReply ..).trans (core_endOffer s l))
  | ok place =>
    exact takeCmd_of_admitted hcheck ▸ keepsWork_between
      (keepsWork_admitCmd ((admissionCheck_endOffer s l l c).trans hcheck)) (core_endOffer s l) rfl

theorem keepsWork_execCmd (s : State) : LeadsTo s.KeepsWork (execCmd s) := by
  unfold execCmd
  split
  · split
    · exact keepsWork_complete (keepsWork_takeCmd ..) rfl
    · exact keepsWork_stay s
  · exact keepsWork_stay s

/-! ## Every step -/

theorem listed_of_collectionsOk {s : State} (hc : s.collectionsOk) : s.Listed := fun _ _ hx _ =>
  mem_admissionOrder_of_exchange hc.1 hx

theorem keepsWork_exec {s : State} (hc : s.collectionsOk) (c : Instr) : LeadsTo s.KeepsWork (exec c s) := by
  have wanes : ∀ {o}, LeadsTo s.Wanes o → LeadsTo s.KeepsWork o := fun h t ht =>
    keepsWork_of_wanes (listed_of_collectionsOk hc) (h t ht)
  cases c with
  | cmd => exact keepsWork_execCmd s
  | issue n => exact keepsWork_execIssue hc n
  | generalGrant => exact keepsWork_execGeneralGrant s
  | reserveGrant l => exact keepsWork_execReserveGrant s l
  | overtakingIssue n => exact keepsWork_execOvertakingIssue hc n
  | park n => exact keepsWork_execPark s n
  | hardwareReset strap => exact wanes (wanes_execHardwareReset s strap)
  | lineLock k => exact wanes (wanes_execLineLock s k)
  | lineUnlock k => exact wanes (wanes_execLineUnlock s k)
  | lineLost k => exact wanes (wanes_execLineLost s k)
  | creditStall k => exact wanes (wanes_execCreditStall s k)
  | hello k frame => exact wanes (wanes_received s k frame)
  | frameReceived k frame => exact wanes (wanes_received s k frame)
  | credit k count => exact wanes (wanes_frameArrives s k _)
  | cmdOffered l => exact wanes (wanes_execCmdOffered s l)
  | abort l => exact wanes (wanes_execAbort s l)
  | take l => exact wanes (wanes_resvRequest s l .take fun u tag n => wanes_takeTake u l tag n)
  | renew l => exact wanes (wanes_resvRequest s l .renew fun u tag n => wanes_takeRenew u l tag n)
  | drop l => exact wanes (wanes_resvRequest s l .drop fun u tag n => wanes_takeDrop u l tag n)
  | readIdent l => exact wanes (wanes_execReadIdent s l)
  | readEntry l => exact wanes (wanes_execReadEntry s l)
  | readSlot l => exact wanes (wanes_execReadSlot s l)
  | readExchange l => exact wanes (wanes_execReadExchange s l)
  | readStore l => exact wanes (wanes_execReadStore s l)
  | writeEntry l => exact wanes (wanes_execWriteEntry s l)
  | revert l => exact wanes (wanes_execRevert s l)
  | activate l => exact wanes (wanes_execActivate s l)
  | noticeAck l => exact wanes (wanes_execNoticeAck s l)
  | slotClear l => exact wanes (wanes_execSlotClear s l)
  | slotReset l => exact wanes (wanes_execSlotReset s l)
  | relayRestart l => exact wanes (wanes_execRelayRestart s l)
  | mgmtUnknownRequest l => exact wanes (wanes_execMgmtUnknownRequest s l)
  | slotLinkSend n => exact wanes (wanes_execSlotLinkSend s n)
  | issueSent n => exact wanes (wanes_execIssueSent s n)
  | cancelSent n => exact wanes (wanes_execCancelSent s n)
  | keepSent n => exact wanes (wanes_execKeepSent s n)
  | creditSent k => exact wanes (wanes_execCreditSent s k)
  | done n => exact wanes (wanes_execDone s n)
  | fault n => exact wanes (wanes_execFault s n)
  | deadlineExpiry i => exact wanes (wanes_execDeadlineExpiry s i)
  | orphanExpiry n t => exact wanes (wanes_execOrphanExpiry s n t)
  | leaseExpiry n => exact wanes (wanes_execLeaseExpiry s n)
  | acknowledgeWindowExpiry n => exact wanes (wanes_execAcknowledgeWindowExpiry s n)
  | pulseEnd n => exact wanes (wanes_execPulseEnd s n)
  | controllerLinkSend l => exact wanes (wanes_execControllerLinkSend s l)
  | replySent l => exact wanes (wanes_execReplySent s l)
  | noticeSent l => exact wanes (wanes_execNoticeSent s l)
  | respSent l => exact wanes (wanes_execRespSent s l)

theorem keepsWork_step {s t : State} (hc : s.collectionsOk) (hstep : step s = .next t) : s.KeepsWork t := by
  unfold step at hstep
  split at hstep
  next c rest _ =>
    exact keepsWork_between (keepsWork_exec (s := { s with pending := rest }) hc c t hstep) rfl rfl
  next =>
    split at hstep
    next c _ => exact keepsWork_exec hc c t hstep
    next =>
      cases hstep
      exact keepsWork_of_core_eq (core_atTime ..)

/-- Settles O59: the work of the slots wanes in every event that begins none, and an admission, an issue and a PARK
begin it within the bounds. -/
theorem stepKeepsOutOfServiceSlotsEmpty : Obligations.StepKeepsOutOfServiceSlotsEmpty := by
  intro s t hc hstep
  have hkeeps := keepsWork_step hc hstep
  exact ⟨hkeeps.outOfService, hkeeps.orphans, fun ⟨_, hrange, _⟩ => hkeeps.positions hrange⟩

end Sys2Proof.Machine
end

section
/-! PROOFS. The configuration banks (Section 9, R142, R143, R148, R150): every event but a reset and the requests
WRITE_ENTRY, REVERT and ACTIVATE keeps both banks as they are, and those four keep them within range. -/

namespace Sys2Proof.Machine

open Sys2Proof

/-! ## Operations that keep the banks (R143) -/

/-- The staged bank and the active bank. -/
def State.banks (s : State) : Bank × Bank := (s.staged, s.active)

theorem banks_of_setting_eq {s t : State} (h : t.setting = s.setting) : t.banks = s.banks :=
  congrArg (fun e => (e.2.2.1, e.2.2.2.1)) h

theorem banks_of_ground_eq {s t : State} (h : t.ground = s.ground) : t.banks = s.banks :=
  banks_of_setting_eq (setting_of_ground_eq h)

@[simp] theorem banks_onCtrl (s : State) (l : CtrlIx) (f : CtrlBlock → CtrlBlock) :
    (s.onCtrl l f).banks = s.banks := rfl
@[simp] theorem banks_onSlot (s : State) (n : SlotIx) (f : SlotBlock → SlotBlock) :
    (s.onSlot n f).banks = s.banks := rfl
@[simp] theorem banks_onLink (s : State) (k : LinkId) (f : LinkBlock → LinkBlock) : (s.onLink k f).banks = s.banks :=
  banks_of_ground_eq (ground_onLink s k f)
@[simp] theorem banks_onResv (s : State) (n : SlotIx) (f : Reservation → Reservation) :
    (s.onResv n f).banks = s.banks := rfl
@[simp] theorem banks_withWaiting (s : State) (ws : List WaitingCause) : (s.withWaiting ws).banks = s.banks := rfl
@[simp] theorem banks_settle (s : State) : s.settle.banks = s.banks := rfl
@[simp] theorem banks_tookFrame (s : State) (l : CtrlIx) : (s.tookFrame l).banks = s.banks := rfl
@[simp] theorem banks_tookSlotFrame (s : State) (n : SlotIx) : (s.tookSlotFrame n).banks = s.banks := rfl
@[simp] theorem banks_queueReply (s : State) (l : CtrlIx) (r : ReplyItem) : (s.queueReply l r).banks = s.banks := rfl
@[simp] theorem banks_answer (s : State) (l : CtrlIx) (tag : Byte) (r : ReplyResult) (d : List Byte) :
    (s.answer l tag r d).banks = s.banks := rfl
@[simp] theorem banks_answerResv (s : State) (l : CtrlIx) (tag : Byte) (r : ReplyResult) (d : List Byte) :
    (s.answerResv l tag r d).banks = s.banks := rfl
@[simp] theorem banks_startLease (s : State) (n : SlotIx) : (s.startLease n).banks = s.banks := rfl
@[simp] theorem banks_makeHolder (s : State) (n : SlotIx) (l : CtrlIx) : (s.makeHolder n l).banks = s.banks := rfl
@[simp] theorem banks_setSlotState (s : State) (n : SlotIx) (st : SlotState) :
    (s.setSlotState n st).banks = s.banks := rfl
@[simp] theorem banks_startPulse (s : State) (n : SlotIx) : (s.startPulse n).banks = s.banks := rfl
@[simp] theorem banks_queueSend (s : State) (n : SlotIx) (f : SlotFrame) : (s.queueSend n f).banks = s.banks := rfl
@[simp] theorem banks_withdrawSend (s : State) (n : SlotIx) (f : SlotFrame) :
    (s.withdrawSend n f).banks = s.banks := rfl
@[simp] theorem banks_leaveSlotQueue (s : State) (n : SlotIx) (i : XtIx) :
    (s.leaveSlotQueue n i).banks = s.banks := rfl
@[simp] theorem banks_removeOrphan (s : State) (n : SlotIx) (t : RelayTag) : (s.removeOrphan n t).banks = s.banks := rfl
@[simp] theorem banks_notify (s : State) (l : CtrlIx) (k : NoticeKind) (a : Byte) (c : NoticeCause) (d : List Byte) :
    (s.notify l k a c d).banks = s.banks := rfl
@[simp] theorem banks_notifyManager (s : State) (k : NoticeKind) (a : Byte) (c : NoticeCause) (d : List Byte) :
    (s.notifyManager k a c d).banks = s.banks := banks_of_setting_eq (setting_notifyManager ..)

@[simp] theorem banks_setPhase (s : State) (i : XtIx) (p : Phase) : (s.setPhase i p).banks = s.banks :=
  banks_of_ground_eq (ground_setPhase ..)
@[simp] theorem banks_returnCmd (s : State) (c : Option CmdSpace) : (s.returnCmd c).banks = s.banks :=
  banks_of_ground_eq (ground_returnCmd ..)
@[simp] theorem banks_takeResp (s : State) (l : CtrlIx) (p : Pool) (k : Nat) : (s.takeResp l p k).banks = s.banks :=
  banks_of_ground_eq (ground_takeResp ..)
@[simp] theorem banks_release (s : State) (l : CtrlIx) (i : XtIx) (r : Response) : (s.release l i r).banks = s.banks :=
  banks_of_ground_eq (ground_release ..)
@[simp] theorem banks_closeSlotSide (s : State) (i : XtIx) (x : Exchange) (kept : Nat) (o : Option Position) :
    (s.closeSlotSide i x kept o).banks = s.banks := banks_of_ground_eq (ground_closeSlotSide ..)
@[simp] theorem banks_endExchange (s : State) (i : XtIx) (r : Response) (orphan : Bool) :
    (s.endExchange i r orphan).banks = s.banks := banks_of_ground_eq (ground_endExchange ..)
@[simp] theorem banks_freeEntry (s : State) (i : XtIx) (x : Exchange) (o : Option Position) :
    (s.freeEntry i x o).banks = s.banks := banks_of_setting_eq (setting_freeEntry ..)
@[simp] theorem banks_queueCancel (s : State) (t : RelayTag) (x : Exchange) : (s.queueCancel t x).banks = s.banks :=
  banks_of_ground_eq (ground_queueCancel ..)
@[simp] theorem banks_endSlotWork (s : State) (n : SlotIx) (code : RelayCode) :
    (s.endSlotWork n code).banks = s.banks := banks_of_ground_eq (ground_endSlotWork ..)
@[simp] theorem banks_preempt (s : State) (n : SlotIx) (l : CtrlIx) : (s.preempt n l).banks = s.banks :=
  banks_of_ground_eq (ground_preempt ..)

/-! ### Reservations and slots -/

@[simp] theorem banks_handOverTo (s : State) (n : SlotIx) (ws : List CtrlIx) : (s.handOverTo n ws).banks = s.banks := by
  induction ws generalizing s with
  | nil => exact banks_onResv ..
  | cons w ws ih =>
    unfold State.handOverTo
    split
    · simp
    · rw [ih, banks_notify]

@[simp] theorem banks_handOver (s : State) (n : SlotIx) : (s.handOver n).banks = s.banks := banks_handOverTo ..

@[simp] theorem banks_revokeLease (s : State) (n : SlotIx) : (s.revokeLease n).banks = s.banks := by
  unfold State.revokeLease
  split
  · rw [banks_handOver, banks_notify]
  · rfl

@[simp] theorem banks_clearReservation (s : State) (n : SlotIx) (cause : NoticeCause) :
    (s.clearReservation n cause).banks = s.banks := by
  unfold State.clearReservation
  dsimp only
  rw [banks_onResv, foldl_keeps _ State.banks fun u l => banks_notify u l _ _ _ _]
  split <;> rfl

@[simp] theorem banks_dropLink (s : State) (l : CtrlIx) : (s.dropLink l).banks = s.banks := by
  refine foldl_keeps _ State.banks (fun u n => ?_) _ s
  unfold State.dropLinkAt
  dsimp only
  split
  · rw [banks_handOver, banks_onResv]
  · rfl

@[simp] theorem banks_takeTake (s : State) (l : CtrlIx) (tag : Byte) (n : SlotIx) :
    (s.takeTake l tag n).banks = s.banks := by
  unfold State.takeTake
  dsimp only
  split
  · rfl
  · split
    · simp
    · split
      · rfl
      · split <;> rfl

@[simp] theorem banks_takeRenew (s : State) (l : CtrlIx) (tag : Byte) (n : SlotIx) :
    (s.takeRenew l tag n).banks = s.banks := by
  unfold State.takeRenew
  split <;> rfl

@[simp] theorem banks_takeDrop (s : State) (l : CtrlIx) (tag : Byte) (n : SlotIx) :
    (s.takeDrop l tag n).banks = s.banks := by
  unfold State.takeDrop
  dsimp only
  split
  · rw [banks_handOver, banks_answerResv]
  · split <;> rfl

@[simp] theorem banks_slotLinkUp (s : State) (n : SlotIx) : (s.slotLinkUp n).banks = s.banks := by
  unfold State.slotLinkUp
  split
  · rw [banks_notifyManager, banks_setSlotState]
  · rfl

@[simp] theorem banks_faultSlot (s : State) (n : SlotIx) (cause : LastFault) :
    (s.faultSlot n cause).banks = s.banks := by
  unfold State.faultSlot
  split
  · simp
  · rfl

@[simp] theorem banks_escalate (s : State) (n : SlotIx) : (s.escalate n).banks = s.banks := by
  simp [State.escalate]

@[simp] theorem banks_resetSlot (s : State) (n : SlotIx) : (s.resetSlot n).banks = s.banks := by
  unfold State.resetSlot
  dsimp only
  split <;> simp

@[simp] theorem banks_acknowledge (s : State) (id : Byte) (n : SlotIx) : (s.acknowledge id n).banks = s.banks := by
  unfold State.acknowledge
  split <;> rfl

@[simp] theorem banks_clearSlot (s : State) (n : SlotIx) : (s.clearSlot n).banks = s.banks := by
  unfold State.clearSlot
  split
  · rw [banks_notifyManager, banks_setSlotState]
  · rfl

/-! ### Exchanges -/

@[simp] theorem banks_admitCmd (s : State) (l : CtrlIx) (c : CmdFrame) (n : SlotIx) (i : XtIx) :
    (s.admitCmd l c n i).banks = s.banks := by
  unfold State.admitCmd
  dsimp only
  split <;> rfl

@[simp] theorem banks_takeCmd (s : State) (l : CtrlIx) (c : CmdFrame) : (s.takeCmd l c).banks = s.banks := by
  unfold State.takeCmd
  dsimp only
  split
  · exact banks_admitCmd ..
  · rfl

@[simp] theorem banks_issueExchange (s : State) (i : XtIx) (pool : Pool) :
    (s.issueExchange i pool).banks = s.banks := by
  unfold State.issueExchange
  split
  · split
    · simp
    · rfl
  · rfl

@[simp] theorem banks_markSent (s : State) (i : XtIx) : (s.markSent i).banks = s.banks := by
  unfold State.markSent
  split
  · split
    · rw [banks_setPhase, banks_returnCmd]
    · rfl
  · rfl

@[simp] theorem banks_respSent (s : State) (l : CtrlIx) : (s.respSent l).banks = s.banks := by
  unfold State.respSent
  dsimp only
  split
  · split
    · rw [banks_freeEntry, banks_onCtrl]
    · rfl
  · rfl

@[simp] theorem banks_takePark (s : State) (n : SlotIx) (t : RelayTag) : (s.takePark n t).banks = s.banks := by
  unfold State.takePark
  split
  · split
    · split
      · split
        · rw [banks_withdrawSend, banks_setPhase]
        · split <;> rfl
      · rfl
    · rfl
  · rfl

@[simp] theorem banks_takeDone (s : State) (n : SlotIx) (d : DoneFrame) : (s.takeDone n d).banks = s.banks := by
  unfold State.takeDone
  split
  · split
    · split <;> exact banks_endExchange ..
    · rfl
  · split <;> rfl

@[simp] theorem banks_abortEntry (s : State) (i : XtIx) : (s.abortEntry i).1.banks = s.banks := by
  unfold State.abortEntry
  split
  · rfl
  · split <;> simp [State.toCancelling]

@[simp] theorem banks_takeDeadline (s : State) (i : XtIx) : (s.takeDeadline i).banks = s.banks := by
  unfold State.takeDeadline
  split
  · rfl
  · split <;> simp

@[simp] theorem banks_takeOrphanExpiry (s : State) (n : SlotIx) (t : RelayTag) :
    (s.takeOrphanExpiry n t).banks = s.banks := by
  unfold State.takeOrphanExpiry
  split
  · rw [banks_faultSlot, banks_removeOrphan]
  · rfl

theorem banks_restartOne (s : State) (i : XtIx) : (s.restartOne i).banks = s.banks := by
  unfold State.restartOne
  split
  · rfl
  · split <;> simp

@[simp] theorem banks_restartAll (s : State) : s.restartAll.banks = s.banks := by
  unfold State.restartAll
  dsimp only
  rw [foldl_keeps _ State.banks fun u n => banks_clearReservation u n .restart,
    foldl_keeps _ State.banks fun u l => banks_onCtrl u l _, foldl_keeps _ State.banks banks_restartOne]

/-! ### Causes that may wait (R97), and links that leave and enter UP (R167, R168) -/

@[simp] theorem banks_departCtrl (s : State) (l : CtrlIx) (cause : DepartCause) :
    (s.departCtrl l cause).banks = s.banks := by
  rw [departCtrl_eq, banks_of_setting_eq (setting_tellDeparture ..), banks_dropLink,
    banks_of_setting_eq (setting_tornDown ..)]

@[simp] theorem banks_takeAbort (s : State) (l : CtrlIx) (tag : Byte) : (s.takeAbort l tag).banks = s.banks := by
  cases ht : s.tagged l tag with
  | none => rw [takeAbort_of_untagged ht, banks_queueReply]
  | some i => rw [takeAbort_of_tagged ht, banks_queueReply, banks_abortEntry]

@[simp] theorem banks_takeRestart (s : State) (l : CtrlIx) (tag : Byte) : (s.takeRestart l tag).banks = s.banks := by
  unfold State.takeRestart
  split <;> simp

@[simp] theorem banks_takeSlotReset (s : State) (l : CtrlIx) (tag : Byte) (n : SlotIx) :
    (s.takeSlotReset l tag n).banks = s.banks := by
  unfold State.takeSlotReset
  split
  · split <;> simp
  · rfl

@[simp] theorem banks_takeWaiting (s : State) (w : WaitingCause) : (s.takeWaiting w).banks = s.banks := by
  cases w with
  | abort l tag _ => exact banks_takeAbort s l tag
  | deadline i => exact banks_takeDeadline s i
  | done n d => exact banks_takeDone s n d
  | departure l cause => exact banks_departCtrl s l cause
  | restart l tag => exact banks_takeRestart s l tag
  | slotReset l tag n => exact banks_takeSlotReset s l tag n
  | faultFrame n code => exact banks_faultSlot s n (.faultFrame code)
  | orphanExpired n t => exact banks_takeOrphanExpiry s n t

@[simp] theorem banks_resolveWaiting (s : State) : s.resolveWaiting.banks = s.banks := by
  refine foldl_keeps _ State.banks (fun u w => ?_) _ s
  rw [resolveOne_eq]
  split
  · rw [banks_takeWaiting, banks_withWaiting]
  · rfl

@[simp] theorem banks_arise (s : State) (w : WaitingCause) : (s.arise w).banks = s.banks := by
  unfold State.arise
  split
  · rfl
  · exact banks_takeWaiting s w

@[simp] theorem banks_linkLeaves (s : State) (k : LinkId) (cause : DepartCause) :
    (s.linkLeaves k cause).banks = s.banks := by
  cases k with
  | ctrl l =>
    unfold State.linkLeaves
    dsimp only
    split
    · rfl
    · exact banks_arise s _
  | slot n =>
    rw [State.linkLeaves, banks_resolveWaiting]
    unfold State.departSlotLink
    dsimp only
    split <;> simp

@[simp] theorem banks_linkEntersUp (s : State) (k : LinkId) (size : Nat) : (s.linkEntersUp k size).banks = s.banks := by
  cases k <;> simp [State.linkEntersUp]

@[simp] theorem banks_lineLost (s : State) (k : LinkId) : (s.lineLost k).banks = s.banks := by
  unfold State.lineLost
  dsimp only
  split <;> simp

end Sys2Proof.Machine
end

section
/-! PROOFS. Every step keeps both banks within range and one manager in the active one (Section 9, R142, R150): the
commands that leave the banks alone, and the four that write them. -/

namespace Sys2Proof.Machine

open Sys2Proof

/-! ## Commands that leave the banks alone (R143) -/

/-- A next state, if the outcome is one, has the banks of s. -/
abbrev State.KeepsBanks (s : State) (o : Host.Outcome State Fault Refusal) : Prop :=
  LeadsTo (fun t => t.banks = s.banks) o

section Commands

variable {s : State}

@[simp] theorem keepsBanks_stay : s.KeepsBanks s.stay := leadsTo_stay rfl

theorem leadsTo_complete {P : State → Prop} {u : State} (h : P u.settle) : LeadsTo P u.complete := by
  rintro t ht
  cases ht
  exact h

theorem keepsBanks_complete {u : State} (h : u.banks = s.banks) : s.KeepsBanks u.complete := leadsTo_complete h

theorem keepsBanks_atExpiry (e : Nat) {effect : State → State} (h : ∀ u : State, (effect u).banks = u.banks) :
    s.KeepsBanks (s.atExpiry e effect) := by
  unfold State.atExpiry
  dsimp only
  split
  · exact keepsBanks_complete (h _)
  · exact keepsBanks_stay

variable (s)

/-! ### Pins and lines -/

theorem keepsBanks_lineLock (k : LinkId) : s.KeepsBanks (execLineLock k s) := by
  unfold execLineLock
  split
  · exact keepsBanks_stay
  · exact keepsBanks_complete (banks_onLink ..)

theorem keepsBanks_lineUnlock (k : LinkId) : s.KeepsBanks (execLineUnlock k s) := by
  unfold execLineUnlock
  split
  · exact keepsBanks_complete (banks_onLink ..)
  · exact keepsBanks_stay

theorem keepsBanks_lineLost (k : LinkId) : s.KeepsBanks (execLineLost k s) := by
  unfold execLineLost
  split
  · exact keepsBanks_atExpiry _ fun u => banks_lineLost u k
  · exact keepsBanks_stay

theorem keepsBanks_creditStall (k : LinkId) : s.KeepsBanks (execCreditStall k s) := by
  unfold execCreditStall
  split
  · exact keepsBanks_atExpiry _ fun u => (banks_linkLeaves ..).trans (banks_onLink u k _)
  · exact keepsBanks_stay

theorem keepsBanks_frameArrives (k : LinkId) (a : Arrival) : s.KeepsBanks (s.frameArrives k a) := by
  unfold State.frameArrives
  split
  · split
    · exact keepsBanks_complete (banks_linkLeaves ..)
    · exact keepsBanks_complete (banks_onLink ..)
  · exact keepsBanks_stay

theorem keepsBanks_helloArrives (k : LinkId) (frame : List Byte) : s.KeepsBanks (s.helloArrives k frame) := by
  unfold State.helloArrives
  split
  · exact keepsBanks_complete (banks_linkEntersUp ..)
  · split
    · exact keepsBanks_stay
    · exact keepsBanks_complete (banks_linkLeaves ..)
  · exact keepsBanks_stay

/-- A frame is taken for what its kind byte says (log 25). -/
theorem keepsBanks_received (k : LinkId) (frame : List Byte) : s.KeepsBanks (if frame.head? = some helloKind then
    s.helloArrives k frame else s.frameArrives k (checkFrame k frame)) := by
  split
  · exact keepsBanks_helloArrives s k frame
  · exact keepsBanks_frameArrives s k _

/-! ### Admission, ABORT and reservations -/

theorem keepsBanks_cmdOffered (l : CtrlIx) : s.KeepsBanks (execCmdOffered l s) := by
  unfold execCmdOffered
  split
  · exact keepsBanks_complete rfl
  · exact keepsBanks_stay

theorem keepsBanks_cmd : s.KeepsBanks (execCmd s) := by
  unfold execCmd
  split
  · split
    · exact keepsBanks_complete (banks_takeCmd ..)
    · exact keepsBanks_stay
  · exact keepsBanks_stay

theorem keepsBanks_abort (l : CtrlIx) : s.KeepsBanks (execAbort l s) := by
  unfold execAbort
  split
  · dsimp only
    split
    · exact keepsBanks_complete (banks_arise ..)
    · exact keepsBanks_complete (banks_takeAbort ..)
  · exact keepsBanks_stay

theorem keepsBanks_resvRequest (l : CtrlIx) (kind : ResvKind) {effect : Byte → State → SlotIx → State}
    (h : ∀ tag u n, (effect tag u n).banks = u.banks) : s.KeepsBanks (s.resvRequest l kind effect) := by
  unfold State.resvRequest
  split
  · split
    · unfold State.takeResv
      split
      · exact keepsBanks_complete (h _ _ _)
      · exact keepsBanks_complete rfl
    · exact keepsBanks_stay
  · exact keepsBanks_stay

/-! ### Management requests -/

variable {s}

theorem leadsTo_mgmtRequest {P : State → Prop} (hs : P s) (l : CtrlIx) (wanted : Byte → Bool)
    {effect : Byte → List Byte → State → State} (h : ∀ tag args, P (effect tag args (s.tookFrame l)).settle) :
    LeadsTo P (s.mgmtRequest l wanted effect) := by
  unfold State.mgmtRequest
  split
  · split
    · exact leadsTo_complete (h _ _)
    · exact leadsTo_stay hs
  · exact leadsTo_stay hs

variable (s)

theorem keepsBanks_mgmtRequest (l : CtrlIx) (wanted : Byte → Bool) {effect : Byte → List Byte → State → State}
    (h : ∀ tag args u, (effect tag args u).banks = u.banks) : s.KeepsBanks (s.mgmtRequest l wanted effect) :=
  leadsTo_mgmtRequest (P := fun t => t.banks = s.banks) rfl l wanted fun _ _ => h _ _ _

variable {s}

theorem banks_privileged (l : CtrlIx) (tag : Byte) {effect : State → State} (h : (effect s).banks = s.banks) :
    (s.privileged l tag effect).banks = s.banks := by
  unfold State.privileged
  split
  · exact h
  · rfl

theorem banks_noArgs (l : CtrlIx) (tag : Byte) (args : List Byte) {effect : State → State}
    (h : (effect s).banks = s.banks) : (s.noArgs l tag args effect).banks = s.banks := by
  unfold State.noArgs
  split
  · exact h
  · rfl

theorem banks_oneArg (l : CtrlIx) (tag : Byte) (args : List Byte) {effect : Byte → State → State}
    (h : ∀ a, (effect a s).banks = s.banks) : (s.oneArg l tag args effect).banks = s.banks := by
  unfold State.oneArg
  split
  · exact h _
  · rfl

variable (s)

theorem keepsBanks_readIdent (l : CtrlIx) : s.KeepsBanks (execReadIdent l s) :=
  keepsBanks_mgmtRequest s l _ fun _ _ _ => banks_noArgs _ _ _ rfl

theorem keepsBanks_readEntry (l : CtrlIx) : s.KeepsBanks (execReadEntry l s) := by
  refine keepsBanks_mgmtRequest s l _ fun _ _ _ => ?_
  split
  · split <;> rfl
  · rfl

theorem keepsBanks_readSlot (l : CtrlIx) : s.KeepsBanks (execReadSlot l s) := by
  refine keepsBanks_mgmtRequest s l _ fun _ _ _ => banks_oneArg _ _ _ fun _ => ?_
  split <;> rfl

theorem keepsBanks_readExchange (l : CtrlIx) : s.KeepsBanks (execReadExchange l s) := by
  refine keepsBanks_mgmtRequest s l _ fun _ _ _ => banks_oneArg _ _ _ fun _ => ?_
  split <;> rfl

theorem keepsBanks_readStore (l : CtrlIx) : s.KeepsBanks (execReadStore l s) :=
  keepsBanks_mgmtRequest s l _ fun _ _ _ => banks_noArgs _ _ _ rfl

theorem keepsBanks_noticeAck (l : CtrlIx) : s.KeepsBanks (execNoticeAck l s) := by
  refine keepsBanks_mgmtRequest s l _ fun _ _ u => banks_privileged _ _ (banks_oneArg _ _ _ fun id => ?_)
  split
  · exact (banks_answer ..).trans (foldl_keeps _ State.banks (fun v n => banks_acknowledge v id n) _ u)
  · rfl

theorem keepsBanks_slotClear (l : CtrlIx) : s.KeepsBanks (execSlotClear l s) := by
  refine keepsBanks_mgmtRequest s l _ fun _ _ u => banks_privileged _ _ (banks_oneArg _ _ _ fun _ => ?_)
  split
  · rfl
  · split
    next => exact (banks_answer ..).trans (banks_clearSlot u _)
    next => rfl
    next => rfl
    next => rfl

theorem keepsBanks_slotReset (l : CtrlIx) : s.KeepsBanks (execSlotReset l s) := by
  refine keepsBanks_mgmtRequest s l _ fun _ _ u => banks_privileged _ _ (banks_oneArg _ _ _ fun _ => ?_)
  split
  · rfl
  · exact banks_arise u _

theorem keepsBanks_relayRestart (l : CtrlIx) : s.KeepsBanks (execRelayRestart l s) :=
  keepsBanks_mgmtRequest s l _ fun _ _ u => banks_privileged _ _ (banks_noArgs _ _ _ (banks_arise u _))

theorem keepsBanks_mgmtUnknownRequest (l : CtrlIx) : s.KeepsBanks (execMgmtUnknownRequest l s) :=
  keepsBanks_mgmtRequest s l _ fun _ _ _ => rfl

/-! ### Issues -/

theorem keepsBanks_issue (n : SlotIx) : s.KeepsBanks (execIssue n s) := by
  unfold execIssue
  split
  · split
    · split
      · exact keepsBanks_complete (banks_issueExchange ..)
      · exact keepsBanks_stay
    · exact keepsBanks_stay
  · exact keepsBanks_stay

theorem keepsBanks_generalGrant : s.KeepsBanks (execGeneralGrant s) := by
  unfold execGeneralGrant
  split
  · exact keepsBanks_complete (banks_issueExchange ..)
  · exact keepsBanks_stay

theorem keepsBanks_reserveGrant (l : CtrlIx) : s.KeepsBanks (execReserveGrant l s) := by
  unfold execReserveGrant
  split
  · split
    · exact keepsBanks_complete (banks_issueExchange ..)
    · exact keepsBanks_stay
  · exact keepsBanks_stay

theorem keepsBanks_overtakingIssue (n : SlotIx) : s.KeepsBanks (execOvertakingIssue n s) := by
  unfold execOvertakingIssue
  split
  · split
    · exact keepsBanks_complete (banks_issueExchange ..)
    · exact keepsBanks_stay
  · exact keepsBanks_stay

/-! ### Frames that leave -/

theorem keepsBanks_slotLinkSend (n : SlotIx) : s.KeepsBanks (execSlotLinkSend n s) := by
  unfold execSlotLinkSend
  split
  · split
    · exact keepsBanks_complete (banks_onSlot ..)
    · split
      · exact keepsBanks_complete (banks_onSlot ..)
      · exact keepsBanks_stay
  · exact keepsBanks_stay

theorem keepsBanks_controllerLinkSend (l : CtrlIx) : s.KeepsBanks (execControllerLinkSend l s) := by
  unfold execControllerLinkSend
  split
  · split
    · exact keepsBanks_complete (banks_onCtrl ..)
    · split
      · exact keepsBanks_complete (banks_onCtrl ..)
      · exact keepsBanks_stay
  · exact keepsBanks_stay

theorem keepsBanks_issueSent (n : SlotIx) : s.KeepsBanks (execIssueSent n s) := by
  unfold execIssueSent
  split
  · exact keepsBanks_complete ((banks_resolveWaiting _).trans (banks_markSent ..))
  · exact keepsBanks_stay

theorem keepsBanks_cancelSent (n : SlotIx) : s.KeepsBanks (execCancelSent n s) := by
  unfold execCancelSent
  split
  · exact keepsBanks_complete (banks_onSlot ..)
  · exact keepsBanks_stay

theorem keepsBanks_keepSent (n : SlotIx) : s.KeepsBanks (execKeepSent n s) := by
  unfold execKeepSent
  split
  · exact keepsBanks_complete (banks_onSlot ..)
  · exact keepsBanks_stay

theorem keepsBanks_creditSent (k : LinkId) : s.KeepsBanks (execCreditSent k s) := by
  unfold execCreditSent
  split
  · exact keepsBanks_complete (banks_onLink ..)
  · exact keepsBanks_stay

theorem keepsBanks_replySent (l : CtrlIx) : s.KeepsBanks (execReplySent l s) := by
  unfold execReplySent
  split
  · exact keepsBanks_complete (banks_onCtrl ..)
  · exact keepsBanks_stay

theorem keepsBanks_noticeSent (l : CtrlIx) : s.KeepsBanks (execNoticeSent l s) := by
  unfold execNoticeSent
  split
  · exact keepsBanks_complete (banks_onCtrl ..)
  · exact keepsBanks_stay

theorem keepsBanks_respSent (l : CtrlIx) : s.KeepsBanks (execRespSent l s) := by
  unfold execRespSent
  split
  · exact keepsBanks_complete (banks_respSent ..)
  · exact keepsBanks_stay

/-! ### Frames of a card, and expiries -/

theorem keepsBanks_park (n : SlotIx) : s.KeepsBanks (execPark n s) := by
  unfold execPark
  split
  · exact keepsBanks_complete (banks_takePark ..)
  · exact keepsBanks_stay

theorem keepsBanks_done (n : SlotIx) : s.KeepsBanks (execDone n s) := by
  unfold execDone
  split
  · dsimp only
    split
    · exact keepsBanks_complete (banks_arise ..)
    · exact keepsBanks_complete (banks_takeDone ..)
  · exact keepsBanks_stay

theorem keepsBanks_fault (n : SlotIx) : s.KeepsBanks (execFault n s) := by
  unfold execFault
  split
  · exact keepsBanks_complete (banks_arise ..)
  · exact keepsBanks_stay

theorem keepsBanks_deadlineExpiry (i : XtIx) : s.KeepsBanks (execDeadlineExpiry i s) := by
  unfold execDeadlineExpiry
  split
  · exact keepsBanks_atExpiry _ fun u => banks_arise u _
  · exact keepsBanks_stay

theorem keepsBanks_orphanExpiry (n : SlotIx) (t : RelayTag) : s.KeepsBanks (execOrphanExpiry n t s) := by
  unfold execOrphanExpiry
  split
  · split
    · exact keepsBanks_stay
    · exact keepsBanks_atExpiry _ fun u => banks_arise u _
  · exact keepsBanks_stay

theorem keepsBanks_leaseExpiry (n : SlotIx) : s.KeepsBanks (execLeaseExpiry n s) := by
  unfold execLeaseExpiry
  split
  · exact keepsBanks_atExpiry _ fun u => banks_revokeLease u n
  · exact keepsBanks_stay

theorem keepsBanks_acknowledgeWindowExpiry (n : SlotIx) : s.KeepsBanks (execAcknowledgeWindowExpiry n s) := by
  unfold execAcknowledgeWindowExpiry
  split
  · exact keepsBanks_atExpiry _ fun u => banks_escalate u n
  · exact keepsBanks_stay

theorem keepsBanks_pulseEnd (n : SlotIx) : s.KeepsBanks (execPulseEnd n s) := by
  unfold execPulseEnd
  split
  · exact keepsBanks_atExpiry _ fun u => banks_setSlotState u n _
  · exact keepsBanks_stay

end Commands

/-! ## Commands that write a bank (R143, R148 to R151) -/

theorem tablesOk_of_banks_eq {s t : State} (hs : s.tablesOk) (h : t.banks = s.banks) : t.tablesOk := by
  obtain ⟨hstaged, hactive⟩ : t.staged = s.staged ∧ t.active = s.active := by
    simpa only [State.banks, Prod.mk.injEq] using h
  simpa only [State.tablesOk, hstaged, hactive] using hs

/-- The default bank is within range and names the strapped link (R143). -/
theorem tablesOk_resetWith (strap : CtrlIx) : (State.resetWith strap).tablesOk := by
  revert strap
  decide

theorem inRange_of_slotConfigOfImage {image : List Byte} {c : SlotConfig} (h : slotConfigOfImage image = some c) :
    c.inRange = true := by
  unfold slotConfigOfImage at h
  split at h
  · simp only [Option.bind_eq_bind, Option.bind_eq_some_iff, Option.ite_none_right_eq_some] at h
    obtain ⟨_, -, hrange, hc⟩ := h
    cases hc
    exact hrange
  · cases h

theorem inRange_of_ctrlConfigOfImage {image : List Byte} {c : CtrlConfig} (h : ctrlConfigOfImage image = some c) :
    c.inRange = true := by
  unfold ctrlConfigOfImage at h
  split at h
  · simp only [Option.bind_eq_bind, Option.bind_eq_some_iff, Option.ite_none_right_eq_some] at h
    obtain ⟨_, -, hrange, hc⟩ := h
    cases hc
    exact hrange
  · cases h

theorem inRange_of_paramsOfImage {image : List Byte} {p : Params} (h : paramsOfImage image = some p) :
    p.inRange = true := by
  unfold paramsOfImage at h
  split at h
  · simp only [Option.ite_none_right_eq_some] at h
    obtain ⟨hrange, hp⟩ := h
    cases hp
    exact hrange
  · cases h

/-- A table with one entry replaced has the property of every entry still, if the new entry has it. -/
theorem forall_getElem_setIfInBounds {α : Type} {k : Nat} {v : Vector α k} {P : α → Prop}
    (hv : ∀ j : Fin k, P v[j]) {a : α} (ha : P a) (i : Nat) (j : Fin k) : P (v.setIfInBounds i a)[j] := by
  simp only [Fin.getElem_fin, Vector.getElem_setIfInBounds]
  split
  · exact ha
  · exact hv j

/-- A write replaces an entry by one within range (R142, R148). -/
theorem inRange_write {b b' : Bank} (hb : b.inRange) {t : TableId} {i : Nat} {image : List Byte}
    (h : b.write t i image = some b') : b'.inRange := by
  obtain ⟨hslots, hctrls, hparams⟩ := hb
  cases t with
  | slot =>
    obtain ⟨c, hc, rfl⟩ := Option.map_eq_some_iff.mp h
    exact ⟨forall_getElem_setIfInBounds (P := fun c : SlotConfig => c.inRange = true) hslots
      (inRange_of_slotConfigOfImage hc) i, hctrls, hparams⟩
  | access =>
    obtain ⟨a, -, rfl⟩ := Option.map_eq_some_iff.mp h
    exact ⟨hslots, hctrls, hparams⟩
  | control =>
    obtain ⟨c, hc, rfl⟩ := Option.map_eq_some_iff.mp h
    exact ⟨hslots, forall_getElem_setIfInBounds (P := fun c : CtrlConfig => c.inRange = true) hctrls
      (inRange_of_ctrlConfigOfImage hc) i, hparams⟩
  | params =>
    obtain ⟨p, hp, rfl⟩ := Option.map_eq_some_iff.mp h
    exact ⟨hslots, hctrls, inRange_of_paramsOfImage hp⟩

theorem inRange_writeEntry {s : State} (h : s.staged.inRange) {args : List Byte} {bank : Bank}
    (hw : s.writeEntry args = .ok bank) : bank.inRange := by
  unfold State.writeEntry at hw
  split at hw
  · split at hw
    · cases hw
    · split at hw
      · cases hw
      · split at hw
        next hbank =>
          cases hw
          exact inRange_write h hbank
        next => cases hw
  · cases hw

/-! ### What ACTIVATE checks and copies (R150, R151) -/

/-- The check passes for the one manager of the staged Controller Table. -/
theorem managers_of_activateCheck {s : State} {m : CtrlIx} (h : s.activateCheck = .ok m) : s.staged.managers = [m] := by
  unfold State.activateCheck at h
  split at h
  · cases h
  next l hl =>
    split at h
    · cases h
      exact hl
    · cases h
  · cases h

theorem ground_disableOne (s : State) (i : XtIx) : (s.disableOne i).ground = s.ground := by
  unfold State.disableOne
  split
  · split
    · exact ground_endExchange ..
    · rfl
  · rfl

theorem ground_disableSlot (s : State) (old : Bank) (n : SlotIx) : (s.disableSlot old n).ground = s.ground := by
  unfold State.disableSlot
  split
  · exact foldl_keeps _ State.ground (fun u i => ground_disableOne u i) _ s
  · rfl

theorem banks_announce (s : State) (m l : CtrlIx) : (s.announce m l).banks = s.banks := by
  unfold State.announce
  split <;> rfl

/-- The two banks are equal after an activation (R151). -/
theorem banks_activateNow (s : State) (m : CtrlIx) : (s.activateNow m).banks = (s.staged, s.staged) := by
  unfold State.activateNow
  dsimp only
  rw [foldl_keeps _ State.banks fun u l => banks_announce u m l,
    foldl_keeps _ State.banks fun u n => banks_of_ground_eq (ground_disableSlot u s.active n)]
  rfl

/-! ### WRITE_ENTRY, REVERT and ACTIVATE -/

section Tables

variable {s : State} (hs : s.tablesOk)

include hs

/-- The commands that leave the banks alone leave them in order. -/
theorem tablesOk_of_keepsBanks {o : Host.Outcome State Fault Refusal} (h : s.KeepsBanks o) :
    LeadsTo State.tablesOk o := fun t ht => tablesOk_of_banks_eq hs (h t ht)

theorem tablesOk_stage {bank : Bank} (h : bank.inRange) : { s with staged := bank }.tablesOk :=
  ⟨h, hs.2⟩

/-- A request of the manager, or a refusal that leaves the banks alone. -/
theorem tablesOk_privileged (l : CtrlIx) (tag : Byte) {effect : State → State} (h : (effect s).tablesOk) :
    (s.privileged l tag effect).tablesOk := by
  unfold State.privileged
  split
  · exact h
  · exact hs

theorem tablesOk_noArgs (l : CtrlIx) (tag : Byte) (args : List Byte) {effect : State → State}
    (h : (effect s).tablesOk) : (s.noArgs l tag args effect).tablesOk := by
  unfold State.noArgs
  split
  · exact h
  · exact hs

theorem tablesOk_answer (l : CtrlIx) (tag : Byte) (r : ReplyResult) (d : List Byte) : (s.answer l tag r d).tablesOk :=
  tablesOk_of_banks_eq hs (banks_answer ..)

theorem tablesOk_mgmtRequest (l : CtrlIx) (wanted : Byte → Bool) {effect : Byte → List Byte → State → State}
    (h : ∀ tag args (u : State), u.tablesOk → (effect tag args u).tablesOk) :
    LeadsTo State.tablesOk (s.mgmtRequest l wanted effect) :=
  leadsTo_mgmtRequest hs l wanted fun tag args =>
    tablesOk_of_banks_eq (h tag args _ (tablesOk_of_banks_eq hs (banks_tookFrame s l))) (banks_settle _)

theorem tablesOk_execWriteEntry (l : CtrlIx) : LeadsTo State.tablesOk (execWriteEntry l s) := by
  refine tablesOk_mgmtRequest hs l _ fun tag args u hu => tablesOk_privileged hu l tag ?_
  split
  next bank hw => exact tablesOk_answer (tablesOk_stage hu (inRange_writeEntry hu.1 hw)) ..
  next => exact tablesOk_answer hu ..

theorem tablesOk_execRevert (l : CtrlIx) : LeadsTo State.tablesOk (execRevert l s) := by
  refine tablesOk_mgmtRequest hs l _ fun tag args u hu => tablesOk_privileged hu l tag
    (tablesOk_noArgs hu l tag args ?_)
  have ⟨_, hactive, _⟩ := hu
  exact tablesOk_answer (tablesOk_stage hu hactive) ..

theorem tablesOk_activateNow {m : CtrlIx} (h : s.activateCheck = .ok m) : (s.activateNow m).tablesOk :=
  tablesOk_of_banks_eq (s := { s with active := s.staged })
    ⟨hs.1, hs.1, congrArg List.length (managers_of_activateCheck h)⟩ (banks_activateNow s m)

theorem tablesOk_execActivate (l : CtrlIx) : LeadsTo State.tablesOk (execActivate l s) := by
  refine tablesOk_mgmtRequest hs l _ fun tag args u hu => tablesOk_privileged hu l tag
    (tablesOk_noArgs hu l tag args ?_)
  split
  next m hm => exact tablesOk_answer (tablesOk_activateNow hu hm) ..
  next => exact tablesOk_answer hu ..

/-! ## Every step -/

theorem tablesOk_exec (c : Instr) : LeadsTo State.tablesOk (exec c s) := by
  have keeps {o : Host.Outcome State Fault Refusal} (h : s.KeepsBanks o) : LeadsTo State.tablesOk o :=
    tablesOk_of_keepsBanks hs h
  cases c with
  | hardwareReset strap =>
    rintro t ht
    cases ht
    exact tablesOk_resetWith strap
  | writeEntry l => exact tablesOk_execWriteEntry hs l
  | revert l => exact tablesOk_execRevert hs l
  | activate l => exact tablesOk_execActivate hs l
  | lineLock k => exact keeps (keepsBanks_lineLock s k)
  | lineUnlock k => exact keeps (keepsBanks_lineUnlock s k)
  | lineLost k => exact keeps (keepsBanks_lineLost s k)
  | creditStall k => exact keeps (keepsBanks_creditStall s k)
  | hello k frame => exact keeps (keepsBanks_received s k frame)
  | frameReceived k frame => exact keeps (keepsBanks_received s k frame)
  | credit k count => exact keeps (keepsBanks_frameArrives s k _)
  | cmdOffered l => exact keeps (keepsBanks_cmdOffered s l)
  | cmd => exact keeps (keepsBanks_cmd s)
  | abort l => exact keeps (keepsBanks_abort s l)
  | take l => exact keeps (keepsBanks_resvRequest s l .take fun tag u n => banks_takeTake u l tag n)
  | renew l => exact keeps (keepsBanks_resvRequest s l .renew fun tag u n => banks_takeRenew u l tag n)
  | drop l => exact keeps (keepsBanks_resvRequest s l .drop fun tag u n => banks_takeDrop u l tag n)
  | readIdent l => exact keeps (keepsBanks_readIdent s l)
  | readEntry l => exact keeps (keepsBanks_readEntry s l)
  | readSlot l => exact keeps (keepsBanks_readSlot s l)
  | readExchange l => exact keeps (keepsBanks_readExchange s l)
  | readStore l => exact keeps (keepsBanks_readStore s l)
  | noticeAck l => exact keeps (keepsBanks_noticeAck s l)
  | slotClear l => exact keeps (keepsBanks_slotClear s l)
  | slotReset l => exact keeps (keepsBanks_slotReset s l)
  | relayRestart l => exact keeps (keepsBanks_relayRestart s l)
  | mgmtUnknownRequest l => exact keeps (keepsBanks_mgmtUnknownRequest s l)
  | issue n => exact keeps (keepsBanks_issue s n)
  | generalGrant => exact keeps (keepsBanks_generalGrant s)
  | reserveGrant l => exact keeps (keepsBanks_reserveGrant s l)
  | overtakingIssue n => exact keeps (keepsBanks_overtakingIssue s n)
  | slotLinkSend n => exact keeps (keepsBanks_slotLinkSend s n)
  | issueSent n => exact keeps (keepsBanks_issueSent s n)
  | cancelSent n => exact keeps (keepsBanks_cancelSent s n)
  | keepSent n => exact keeps (keepsBanks_keepSent s n)
  | creditSent k => exact keeps (keepsBanks_creditSent s k)
  | park n => exact keeps (keepsBanks_park s n)
  | done n => exact keeps (keepsBanks_done s n)
  | fault n => exact keeps (keepsBanks_fault s n)
  | deadlineExpiry i => exact keeps (keepsBanks_deadlineExpiry s i)
  | orphanExpiry n t => exact keeps (keepsBanks_orphanExpiry s n t)
  | leaseExpiry n => exact keeps (keepsBanks_leaseExpiry s n)
  | acknowledgeWindowExpiry n => exact keeps (keepsBanks_acknowledgeWindowExpiry s n)
  | pulseEnd n => exact keeps (keepsBanks_pulseEnd s n)
  | controllerLinkSend l => exact keeps (keepsBanks_controllerLinkSend s l)
  | replySent l => exact keeps (keepsBanks_replySent s l)
  | noticeSent l => exact keeps (keepsBanks_noticeSent s l)
  | respSent l => exact keeps (keepsBanks_respSent s l)

end Tables

/-- Settles O55: a command leaves the banks alone or is one of the four that write them; time leaves them alone. -/
theorem stepKeepsTables : Obligations.StepKeepsTables := by
  intro s t hs hstep
  unfold step at hstep
  split at hstep
  next c rest _ => exact tablesOk_exec (s := { s with pending := rest }) hs c t hstep
  next =>
    split at hstep
    next c _ => exact tablesOk_exec hs c t hstep
    next =>
      cases hstep
      exact hs

end Sys2Proof.Machine
end

section
/-! PROOFS. Requests that read the state, and the requests on the staged bank but for its activation (Section 9, R147 to
R149; R20, R76, R141). -/

namespace Sys2Proof.Machine

open Sys2Proof

/-! ## Answers to a request without and with one argument (R155, R156) -/

theorem noArgs_nil (s : State) (l : CtrlIx) (tag : Byte) (effect : State → State) :
    s.noArgs l tag [] effect = effect s := rfl

theorem oneArg_singleton (s : State) (l : CtrlIx) (tag a : Byte) (effect : Byte → State → State) :
    s.oneArg l tag [a] effect = effect a s := rfl

/-! ## The tables and their entries (R142, Section 12.2) -/

theorem tableOfByte_none {t : Byte} (h : t.toNat = 0 ∨ 4 < t.toNat) : tableOfByte t = none := by
  have hne (k : Byte) (hk : k.toNat ≠ 0 ∧ k.toNat ≤ 4) : t ≠ k := by
    rintro rfl
    omega
  rw [tableOfByte, if_neg (hne 1 (by decide)), if_neg (hne 2 (by decide)), if_neg (hne 3 (by decide)),
    if_neg (hne 4 (by decide))]

theorem ne_of_lt_toNat {a : Byte} {n : Nat} (h : n < a.toNat) (k : Byte) (hk : k.toNat ≤ n) : a ≠ k := by
  rintro rfl
  exact Nat.not_lt.mpr hk h

theorem one_le_toNat {i : Byte} (h : i ≠ 0) : 1 ≤ i.toNat :=
  Nat.pos_of_ne_zero fun h0 => h (BitVec.eq_of_toNat_eq h0)

theorem image_none {b : Bank} {id : TableId} {i : Nat} (h : id.entries ≤ i) : b.image id i = none := by
  cases id with
  | slot => rw [Bank.image, Vector.getElem?_eq_none (xs := b.slotTable) h, Option.map_none]
  | access => rw [Bank.image, Vector.getElem?_eq_none (xs := b.access) h, Option.map_none]
  | control => rw [Bank.image, Vector.getElem?_eq_none (xs := b.control) h, Option.map_none]
  | params => exact if_neg (Nat.pos_iff_ne_zero.mp h)

theorem image_slot (b : Bank) {i : Nat} (h : i < 8) : b.image .slot i = some b.slotTable[i].image := by
  simp [Bank.image, h]

theorem image_access (b : Bank) {i : Nat} (h : i < 32) : b.image .access i = some [b.access[i].byte] := by
  simp [Bank.image, h]

theorem image_control (b : Bank) {i : Nat} (h : i < 4) : b.image .control i = some b.control[i].image := by
  simp [Bank.image, h]

/-! ## READ_ENTRY (R147) -/

/-- A bank that READ_ENTRY can name, and the code that names it. -/
def State.bankAt (s : State) (b : Byte) (bank : Bank) : Prop := b = 0 ∧ bank = s.staged ∨ b = 1 ∧ bank = s.active

section EntryData

variable {s : State} {t b i : Byte}

theorem entryData_of_entry {bank : Bank} {id : TableId} {image : List Byte} (ht : tableOfByte t = some id)
    (hb : s.bankAt b bank) (hi : bank.image id i.toNat = some image) :
    s.entryData t b i = some (image ++ be16 s.epoch.toNat) := by
  rcases hb with ⟨rfl, rfl⟩ | ⟨rfl, rfl⟩ <;> simp [State.entryData, ht, hi]

theorem entryData_of_no_table (h : tableOfByte t = none) : s.entryData t b i = none := by
  simp [State.entryData, h]

theorem entryData_of_no_bank (h : 1 < b.toNat) : s.entryData t b i = none := by
  simp only [State.entryData, if_neg (ne_of_lt_toNat h 0 (by decide)), if_neg (ne_of_lt_toNat h 1 (by decide))]
  cases tableOfByte t <;> rfl

theorem entryData_of_no_entry {id : TableId} (ht : tableOfByte t = some id) (h : id.entries ≤ i.toNat) :
    s.entryData t b i = none := by
  simp [State.entryData, ht, image_none h]

end EntryData

section ReadEntry

variable {s : State} {l : CtrlIx} {tag t b i : Byte} (h : s.takes l (.mgmt tag 0x02 [t, b, i]))

include h

theorem execReadEntry_of_data {data : List Byte} (hd : s.entryData t b i = some data) :
    execReadEntry l s = .next ((s.tookFrame l).answer l tag .ok data).settle := by
  have hd' : (s.tookFrame l).entryData t b i = some data := hd
  rw [execReadEntry, mgmtRequest_of_takes h (wanted := (· == readEntryCode)) (beq_self_eq_true _)]
  simp only [hd']

theorem execReadEntry_of_no_data (hd : s.entryData t b i = none) :
    execReadEntry l s = .next ((s.tookFrame l).answer l tag .badRequest []).settle := by
  have hd' : (s.tookFrame l).entryData t b i = none := hd
  rw [execReadEntry, mgmtRequest_of_takes h (wanted := (· == readEntryCode)) (beq_self_eq_true _)]
  simp only [hd']

end ReadEntry

/-! ## READ_SLOT, READ_EXCHANGE and READ_STORE (R141, R20, R76) -/

section Reads

variable {s : State} {l : CtrlIx} {tag a : Byte}

theorem execReadSlot_of_slot (h : s.takes l (.mgmt tag 0x03 [a])) {n : SlotIx} (ha : slotOfByte a = some n) :
    execReadSlot l s = .next ((s.tookFrame l).answer l tag .ok ((s.tookFrame l).slotView n)).settle := by
  rw [execReadSlot, mgmtRequest_of_takes h (wanted := (· == readSlotCode)) (beq_self_eq_true _)]
  simp only [oneArg_singleton, ha]

theorem execReadSlot_of_no_slot (h : s.takes l (.mgmt tag 0x03 [a])) (ha : slotOfByte a = none) :
    execReadSlot l s = .next ((s.tookFrame l).answer l tag .badValue []).settle := by
  rw [execReadSlot, mgmtRequest_of_takes h (wanted := (· == readSlotCode)) (beq_self_eq_true _)]
  simp only [oneArg_singleton, ha]

theorem execReadExchange_of_index (h : s.takes l (.mgmt tag 0x04 [a])) {i : XtIx} (ha : indexOfByte a = some i) :
    execReadExchange l s = .next ((s.tookFrame l).answer l tag .ok ((s.tookFrame l).exchangeView i)).settle := by
  rw [execReadExchange, mgmtRequest_of_takes h (wanted := (· == readExchangeCode)) (beq_self_eq_true _)]
  simp only [oneArg_singleton, ha]

theorem execReadExchange_of_no_index (h : s.takes l (.mgmt tag 0x04 [a])) (ha : indexOfByte a = none) :
    execReadExchange l s = .next ((s.tookFrame l).answer l tag .badValue []).settle := by
  rw [execReadExchange, mgmtRequest_of_takes h (wanted := (· == readExchangeCode)) (beq_self_eq_true _)]
  simp only [oneArg_singleton, ha]

theorem execReadStore_of_takes (h : s.takes l (.mgmt tag 0x05 [])) :
    execReadStore l s = .next ((s.tookFrame l).answer l tag .ok (s.tookFrame l).storeView).settle := by
  rw [execReadStore, mgmtRequest_of_takes h (wanted := (· == readStoreCode)) (beq_self_eq_true _), noArgs_nil]

end Reads

/-- Settles O29: the entry, slot, exchange or store that the request names is read, or the request names none. -/
theorem readsAnswerAndChangeNothing : Obligations.ReadsAnswerAndChangeNothing := by
  intro l tag s answered epoch
  refine ⟨fun b i bank hb => ?entry, fun t b i h hout => ?noEntry, fun a h => ?slot, fun a h => ?exchange,
    fun h => execReadStore_of_takes h⟩
  case entry =>
    refine ⟨fun hi h => ?_, fun hi h => ?_, fun hi h => ?_, fun hi h => ?_⟩
    · exact execReadEntry_of_data h (entryData_of_entry rfl hb (image_slot bank hi))
    · exact execReadEntry_of_data h (entryData_of_entry rfl hb (image_access bank hi))
    · exact execReadEntry_of_data h (entryData_of_entry rfl hb (image_control bank hi))
    · exact execReadEntry_of_data h (entryData_of_entry rfl hb (hi ▸ rfl))
  case noEntry =>
    refine execReadEntry_of_no_data h ?_
    rcases hout with ht | ht | hb | ⟨rfl, hi⟩ | ⟨rfl, hi⟩ | ⟨rfl, hi⟩ | ⟨rfl, hi⟩
    · exact entryData_of_no_table (tableOfByte_none (.inl ht))
    · exact entryData_of_no_table (tableOfByte_none (.inr ht))
    · exact entryData_of_no_bank hb
    · exact entryData_of_no_entry (id := .slot) rfl hi
    · exact entryData_of_no_entry (id := .access) rfl hi
    · exact entryData_of_no_entry (id := .control) rfl hi
    · exact entryData_of_no_entry (id := .params) rfl (one_le_toNat hi)
  case slot =>
    exact ⟨fun n ha => execReadSlot_of_slot h ha, fun ha => execReadSlot_of_no_slot h (slotOfByte_none ha)⟩
  case exchange =>
    exact ⟨fun i ha => execReadExchange_of_index h ha,
      fun ha => execReadExchange_of_no_index h (indexOfByte_none ha)⟩

end Sys2Proof.Machine
end

section
/-! PROOFS. The requests that write the staged bank, WRITE_ENTRY and REVERT (Section 9, R148, R149). -/

namespace Sys2Proof.Machine

open Sys2Proof

/-! ## REVERT (R149) -/

theorem exec_revert (l : CtrlIx) (s : State) : exec (.revert l) s = execRevert l s := rfl

theorem privileged_of_not_isManager {s : State} {l : CtrlIx} (h : s.isManager l = false) (tag : Byte)
    (effect : State → State) : s.privileged l tag effect = s.answer l tag .notManager [] := by
  simp [State.privileged, h]

/-- Settles O32: the request passes the privilege check, or it does not. -/
theorem revertCopiesTheActiveBank : Obligations.RevertCopiesTheActiveBank := by
  intro l tag s h answered
  rw [exec_revert, execRevert, mgmtRequest_of_takes h (wanted := (· == revertCode)) (beq_self_eq_true _)]
  refine ⟨fun hm => ?_, fun hm => ?_⟩
  · rw [privileged_of_isManager (s := s.tookFrame l) hm, noArgs_nil]
    rfl
  · rw [privileged_of_not_isManager (s := s.tookFrame l) hm]
    rfl

/-! ## Entry images (Table 12.5) -/

theorem toNat_byteOf {k : Nat} (h : k ≤ 255) : (byteOf k).toNat = k := by
  rw [byteOf, BitVec.toNat_ofNat]
  exact Nat.mod_eq_of_lt (by omega)

/-- The image of an entry within range is read back as the entry. -/
theorem slotConfigOfImage_image {c : SlotConfig} (h : c.inRange = true) : slotConfigOfImage c.image = some c := by
  have hbytes := h
  simp only [SlotConfig.inRange, Bool.and_eq_true, decide_eq_true_eq, and_assoc] at hbytes
  obtain ⟨-, hw, hp, -, hq, -, ha, -, hd, hl⟩ := hbytes
  simp only [slotConfigOfImage, SlotConfig.image, boolOfByte_boolByte, toNat_byteOf (Nat.le_trans hw (by decide)),
    toNat_byteOf (Nat.le_trans hp (by decide)), toNat_byteOf (Nat.le_trans hq (by decide)), toNat_byteOf ha,
    toNat_byteOf hd, toNat_byteOf hl, Option.bind_eq_bind, Option.bind_some]
  exact if_pos h

theorem ctrlConfigOfImage_image {c : CtrlConfig} (h : c.inRange = true) : ctrlConfigOfImage c.image = some c := by
  have hbytes := h
  simp only [CtrlConfig.inRange, Bool.and_eq_true, decide_eq_true_eq] at hbytes
  obtain ⟨-, ho⟩ := hbytes
  simp only [ctrlConfigOfImage, CtrlConfig.image, boolOfByte_boolByte, toNat_byteOf (Nat.le_trans ho (by decide)),
    Option.bind_eq_bind, Option.bind_some]
  exact if_pos h

theorem paramsOfImage_image {p : Params} (h : p.inRange = true) : paramsOfImage p.image = some p := by
  have hbytes := h
  simp only [Params.inRange, Bool.and_eq_true, decide_eq_true_eq, and_assoc] at hbytes
  obtain ⟨-, ha, -, ho⟩ := hbytes
  simp only [paramsOfImage, Params.image, toNat_byteOf ha, toNat_byteOf (Nat.le_trans ho (by decide))]
  exact if_pos h

theorem accessOfImage_byte (a : Access) : accessOfImage [a.byte] = some a := by
  cases a <;> rfl

theorem accessOfImage_none {a : Byte} (h : 2 < a.toNat) : accessOfImage [a] = none := by
  rw [accessOfImage, accessOfByte, if_neg (ne_of_lt_toNat h 0 (by decide)), if_neg (ne_of_lt_toNat h 1 (by decide)),
    if_neg (ne_of_lt_toNat h 2 (by decide))]

theorem boolOfByte_none {a : Byte} (h : 1 < a.toNat) : boolOfByte a = none := by
  rw [boolOfByte, if_neg (ne_of_lt_toNat h 0 (by decide)), if_neg (ne_of_lt_toNat h 1 (by decide))]

theorem ctrlConfigOfImage_none {o m : Byte} (h : o.toNat = 0 ∨ 32 < o.toNat ∨ 1 < m.toNat) :
    ctrlConfigOfImage [o, m] = none := by
  by_cases hm : 1 < m.toNat
  · simp [ctrlConfigOfImage, boolOfByte_none hm]
  · have ho : ∀ b, (⟨o.toNat, b⟩ : CtrlConfig).inRange = false := fun b => by
      simp only [CtrlConfig.inRange, Bool.and_eq_false_iff, decide_eq_false_iff_not]
      omega
    cases hb : boolOfByte m <;> simp [ctrlConfigOfImage, hb, ho]

theorem paramsOfImage_none {w o : Byte} (h : w.toNat = 0 ∨ o.toNat = 0 ∨ 50 < o.toNat) :
    paramsOfImage [w, o] = none := by
  have hp : (⟨w.toNat, o.toNat⟩ : Params).inRange = false := by
    simp only [Params.inRange, Bool.and_eq_false_iff, decide_eq_false_iff_not]
    omega
  simp [paramsOfImage, hp]

/-! ## WRITE_ENTRY (R148) -/

section Checks

variable {s : State} {t i : Byte} {image : List Byte}

theorem writeEntry_of_short {args : List Byte} (h : args.length < 2) : s.writeEntry args = .error .badRequest := by
  match args with
  | [] => rfl
  | [_] => rfl
  | _ :: _ :: _ => simp at h

theorem writeEntry_of_no_table (h : tableOfByte t = none) : s.writeEntry (t :: i :: image) = .error .badRequest := by
  simp only [State.writeEntry, h]

theorem writeEntry_of_wrong_form {id : TableId} (ht : tableOfByte t = some id)
    (h : id.entries ≤ i.toNat ∨ image.length ≠ id.imageLength) :
    s.writeEntry (t :: i :: image) = .error .badRequest := by
  simp only [State.writeEntry, ht, if_pos h]

section Form

variable {id : TableId} (ht : tableOfByte t = some id) (hi : i.toNat < id.entries) (hl : image.length = id.imageLength)

include ht hi hl

theorem writeEntry_of_write {bank : Bank} (hw : s.staged.write id i.toNat image = some bank) :
    s.writeEntry (t :: i :: image) = .ok bank := by
  have hform : ¬ (id.entries ≤ i.toNat ∨ image.length ≠ id.imageLength) := by omega
  simp only [State.writeEntry, ht, if_neg hform, hw]

theorem writeEntry_of_no_write (hw : s.staged.write id i.toNat image = none) :
    s.writeEntry (t :: i :: image) = .error .badValue := by
  have hform : ¬ (id.entries ≤ i.toNat ∨ image.length ≠ id.imageLength) := by omega
  simp only [State.writeEntry, ht, if_neg hform, hw]

end Form

end Checks

section Write

variable (b : Bank) {i : Nat}

theorem setIfInBounds_eq_set {α : Type} {k : Nat} (v : Vector α k) (h : i < k) (a : α) :
    v.setIfInBounds i a = v.set i a := by
  simp [Vector.setIfInBounds, Vector.set, Array.setIfInBounds, h]

theorem write_slot (h : i < 8) {c : SlotConfig} (hc : c.inRange = true) :
    b.write .slot i c.image = some { b with slotTable := b.slotTable.set i c } := by
  rw [Bank.write, slotConfigOfImage_image hc, Option.map_some, setIfInBounds_eq_set _ h]

theorem write_access (h : i < 32) (a : Access) :
    b.write .access i [a.byte] = some { b with access := b.access.set i a } := by
  rw [Bank.write, accessOfImage_byte, Option.map_some, setIfInBounds_eq_set _ h]

theorem write_control (h : i < 4) {c : CtrlConfig} (hc : c.inRange = true) :
    b.write .control i c.image = some { b with control := b.control.set i c } := by
  rw [Bank.write, ctrlConfigOfImage_image hc, Option.map_some, setIfInBounds_eq_set _ h]

theorem write_params {p : Params} (hp : p.inRange = true) :
    b.write .params i p.image = some { b with params := p } := by
  rw [Bank.write, paramsOfImage_image hp, Option.map_some]

end Write

section WriteEntry

variable {s : State} {l : CtrlIx} {tag : Byte} {args : List Byte} (h : s.takes l (.mgmt tag 0x06 args))
  (hm : s.isManager l = true)

include h hm

theorem execWriteEntry_of_ok {bank : Bank} (hw : s.writeEntry args = .ok bank) :
    execWriteEntry l s = .next (State.answer { s.tookFrame l with staged := bank } l tag .ok []).settle := by
  have hw' : (s.tookFrame l).writeEntry args = .ok bank := hw
  rw [execWriteEntry, mgmtRequest_of_takes h (wanted := (· == writeEntryCode)) (beq_self_eq_true _),
    privileged_of_isManager (s := s.tookFrame l) hm]
  simp only [hw']

theorem execWriteEntry_of_error {r : ReplyResult} (hw : s.writeEntry args = .error r) :
    execWriteEntry l s = .next ((s.tookFrame l).answer l tag r []).settle := by
  have hw' : (s.tookFrame l).writeEntry args = .error r := hw
  rw [execWriteEntry, mgmtRequest_of_takes h (wanted := (· == writeEntryCode)) (beq_self_eq_true _),
    privileged_of_isManager (s := s.tookFrame l) hm]
  simp only [hw']

end WriteEntry

/-- Settles O31: the entry of each table, a field of each table out of range, and each way to get the form wrong. -/
theorem writeEntryReplacesAStagedEntry : Obligations.WriteEntryReplacesAStagedEntry := by
  intro l tag args s h hm answered u
  have ok {bank : Bank} (hw : s.writeEntry args = .ok bank) : exec (.writeEntry l) s
      = .next (answered { u with staged := bank } .ok).settle := execWriteEntry_of_ok h hm hw
  have error {r : ReplyResult} (hw : s.writeEntry args = .error r) : exec (.writeEntry l) s
      = .next (answered u r).settle := execWriteEntry_of_error h hm hw
  refine ⟨?slot, ?access, ?control, ?params, ?slotValue, ?accessValue, ?controlValue, ?paramsValue, ?form,
    fun hshort => error (writeEntry_of_short hshort)⟩
  case slot =>
    rintro i c hc rfl hi
    exact ok (writeEntry_of_write (id := .slot) rfl hi rfl (write_slot _ hi hc))
  case access =>
    rintro i a rfl hi
    exact ok (writeEntry_of_write (id := .access) rfl hi rfl (write_access _ hi a))
  case control =>
    rintro i c hc rfl hi
    exact ok (writeEntry_of_write (id := .control) rfl hi rfl (write_control _ hi hc))
  case params =>
    rintro p hp rfl
    exact ok (writeEntry_of_write (id := .params) rfl (by decide) rfl (write_params _ hp))
  case slotValue =>
    rintro i image rfl hi hl hnone
    exact error (writeEntry_of_no_write (id := .slot) rfl hi hl (by rw [Bank.write, hnone, Option.map_none]))
  case accessValue =>
    rintro i a rfl hi ha
    exact error (writeEntry_of_no_write (id := .access) rfl hi rfl
      (by rw [Bank.write, accessOfImage_none ha, Option.map_none]))
  case controlValue =>
    rintro i o m rfl hi hout
    exact error (writeEntry_of_no_write (id := .control) rfl hi rfl
      (by rw [Bank.write, ctrlConfigOfImage_none hout, Option.map_none]))
  case paramsValue =>
    rintro w o rfl hout
    exact error (writeEntry_of_no_write (id := .params) rfl (by decide) rfl
      (by rw [Bank.write, paramsOfImage_none hout, Option.map_none]))
  case form =>
    rintro t i image rfl (ht | ht | ⟨rfl, hf⟩ | ⟨rfl, hf⟩ | ⟨rfl, hf⟩ | ⟨rfl, hf⟩)
    · exact error (writeEntry_of_no_table (tableOfByte_none (.inl ht)))
    · exact error (writeEntry_of_no_table (tableOfByte_none (.inr ht)))
    · exact error (writeEntry_of_wrong_form (id := .slot) rfl hf)
    · exact error (writeEntry_of_wrong_form (id := .access) rfl hf)
    · exact error (writeEntry_of_wrong_form (id := .control) rfl hf)
    · exact error (writeEntry_of_wrong_form (id := .params) rfl (hf.imp_left one_le_toNat))

end Sys2Proof.Machine
end

section
/-! PROOFS. ACTIVATE (Section 9, R150, R151): the checks on the staged Controller Table, the queued work of the slots
that it disables (R64), and the notices to the links that are UP. -/

namespace Sys2Proof.Machine

open Sys2Proof

/-! ## One QUEUED exchange of a slot that is disabled (R64) -/

theorem disableOne_of_queued {s : State} {i : XtIx} {x : Exchange} (hx : s.exchange i = some x)
    (hq : x.isQueued = true) : s.disableOne i = s.endExchange i (.relay .slotDisabled) false := by
  simp only [State.disableOne, hx, if_pos hq]

theorem disableOne_of_not_queued {s : State} {i : XtIx} (h : ∀ x, s.exchange i = some x → x.isQueued = false) :
    s.disableOne i = s := by
  rcases exchange_eq_none_or_some s i with hx | ⟨x, hx⟩
  · simp only [State.disableOne, hx]
  · simp only [State.disableOne, hx, h x hx, Bool.false_eq_true, if_false]

theorem queued_or_not_queued (s : State) (i : XtIx) :
    (∃ x, s.exchange i = some x ∧ x.isQueued = true) ∨ ∀ x, s.exchange i = some x → x.isQueued = false := by
  by_cases h : ∃ x, s.exchange i = some x ∧ x.isQueued = true
  · exact .inl h
  · exact .inr fun x hx => Bool.of_not_eq_true fun hq => h ⟨x, hx, hq⟩

theorem isQueued_of_sameOrReleased {x y : Exchange} (h : x.sameOrReleased y) : y.isQueued = x.isQueued := by
  rcases h with rfl | ⟨r, hr, rfl⟩
  · rfl
  · simp [Exchange.isQueued, hr]

theorem isHeld_of_queued {x : Exchange} (h : x.isQueued = true) : x.isHeld = false := by
  unfold Exchange.isQueued at h
  split at h
  next c hc => simp [Exchange.isHeld, hc]
  next => cases h

theorem keepsAt_disableOne_ne (s : State) {i j : XtIx} (h : j ≠ i) : s.KeepsAt (s.disableOne i) j := by
  rcases queued_or_not_queued s i with ⟨x, hx, hq⟩ | hnot
  · rw [disableOne_of_queued hx hq]
    exact keepsAt_endExchange s _ h
  · rw [disableOne_of_not_queued hnot]
    exact keepsAt_of_entry_eq rfl

/-- What an ending leaves alone. -/
theorem disableOne_keeps {α : Type} (g : State → α) (h : ∀ (s : State) i x, s.exchange i = some x →
    g (s.endExchange i (.relay .slotDisabled) false) = g s) (s : State) (i : XtIx) : g (s.disableOne i) = g s := by
  rcases queued_or_not_queued s i with ⟨x, hx, hq⟩ | hnot
  · rw [disableOne_of_queued hx hq, h s i x hx]
  · rw [disableOne_of_not_queued hnot]

theorem queue_disableOne_subset (s : State) (i : XtIx) (n : SlotIx) :
    ((s.disableOne i).slot n).queue ⊆ (s.slot n).queue := by
  rcases queued_or_not_queued s i with ⟨x, hx, hq⟩ | hnot
  · rw [disableOne_of_queued hx hq, queue_endExchange_without_orphan hx]
    split
    · exact List.filter_subset_self _
    · exact List.Subset.refl _
  · rw [disableOne_of_not_queued hnot]
    exact List.Subset.refl _

theorem mem_queue_disableOne {s : State} {i j : XtIx} {n : SlotIx} (hj : j ∈ (s.slot n).queue) (h : j ≠ i) :
    j ∈ ((s.disableOne i).slot n).queue := by
  rcases queued_or_not_queued s i with ⟨x, hx, hq⟩ | hnot
  · rw [disableOne_of_queued hx hq, queue_endExchange_without_orphan hx]
    split
    · exact mem_filter_ne h hj
    · exact hj
  · rwa [disableOne_of_not_queued hnot]

/-! ## The exchanges of a list -/

/-- The QUEUED exchanges of a list end SLOT_DISABLED, one after another. -/
def State.disableList (s : State) (is : List XtIx) : State := is.foldl State.disableOne s

theorem disableList_cons (s : State) (i : XtIx) (is : List XtIx) :
    s.disableList (i :: is) = (s.disableOne i).disableList is := rfl

theorem disableList_append (s : State) (is js : List XtIx) :
    s.disableList (is ++ js) = (s.disableList is).disableList js := List.foldl_append

theorem disableList_keeps {α : Type} (g : State → α) (h : ∀ (s : State) i x, s.exchange i = some x →
    g (s.endExchange i (.relay .slotDisabled) false) = g s) (s : State) (is : List XtIx) :
    g (s.disableList is) = g s := foldl_keeps _ g (disableOne_keeps g h) is s

theorem ground_disableList (s : State) (is : List XtIx) : (s.disableList is).ground = s.ground :=
  disableList_keeps State.ground (fun u i _ _ => ground_endExchange u i _ _) s is

theorem unlisted_disableList (s : State) (is : List XtIx) (l : CtrlIx) :
    ((s.disableList is).ctrl l).unlisted = (s.ctrl l).unlisted :=
  disableList_keeps (fun u => (u.ctrl l).unlisted) (fun u i _ _ => unlisted_endExchange u i _ l) s is

theorem unqueued_disableList (s : State) (is : List XtIx) (n : SlotIx) :
    ((s.disableList is).slot n).unqueued = (s.slot n).unqueued :=
  disableList_keeps (fun u => (u.slot n).unqueued) (fun _ _ _ hx => unqueued_endExchange hx _ n) s is

theorem queue_disableList_subset (s : State) (is : List XtIx) (n : SlotIx) :
    ((s.disableList is).slot n).queue ⊆ (s.slot n).queue :=
  List.foldlRecOn (motive := fun u : State => (u.slot n).queue ⊆ (s.slot n).queue) is _ (List.Subset.refl _)
    fun u hu i _ => List.Subset.trans (queue_disableOne_subset u i n) hu

theorem mem_queue_disableList {s : State} {is : List XtIx} {j : XtIx} {n : SlotIx} (hj : j ∈ (s.slot n).queue)
    (h : j ∉ is) : j ∈ ((s.disableList is).slot n).queue :=
  List.foldlRecOn (motive := fun u : State => j ∈ (u.slot n).queue) is _ hj
    fun _ hu _ hi => mem_queue_disableOne hu (ne_of_mem_of_not_mem hi h).symm

/-- An exchange that is not in the list, or not QUEUED, stays, but for a release from HELD. -/
theorem keepsAt_disableList {s : State} {is : List XtIx} {j : XtIx}
    (h : j ∉ is ∨ ∀ x, s.exchange j = some x → x.isQueued = false) : s.KeepsAt (s.disableList is) j := by
  induction is generalizing s with
  | nil => exact keepsAt_of_entry_eq rfl
  | cons i is ih =>
    rw [disableList_cons]
    have hstep : s.KeepsAt (s.disableOne i) j := by
      by_cases hji : j = i
      · subst hji
        rw [disableOne_of_not_queued (h.resolve_left (by simp))]
        exact keepsAt_of_entry_eq rfl
      · exact keepsAt_disableOne_ne s hji
    refine fun x hx => keepsAt_trans hstep (ih ?_) x hx
    refine h.imp (fun hj hmem => hj (List.mem_cons_of_mem i hmem)) fun hnot y hy => ?_
    obtain ⟨z, hz, hxz⟩ := hstep x hx
    obtain rfl : z = y := Option.some.inj (hz.symm.trans hy)
    rw [isQueued_of_sameOrReleased hxz, hnot x hx]

/-- A QUEUED exchange of the list ends SLOT_DISABLED. -/
theorem exchange_disableList_of_queued {s : State} {is : List XtIx} {j : XtIx} {x : Exchange} (hj : j ∈ is)
    (hx : s.exchange j = some x) (hq : x.isQueued = true) :
    (s.disableList is).exchange j = some (x.withPhase (.held (.relay .slotDisabled)))
      ∨ (s.disableList is).exchange j = some (x.withPhase (.released (.relay .slotDisabled))) := by
  induction is generalizing s with
  | nil => cases hj
  | cons i is ih =>
    rw [disableList_cons]
    by_cases hji : j = i
    · subst hji
      rw [disableOne_of_queued hx hq]
      have hended := exchange_endExchange_self (.relay .slotDisabled) hx
      refine ended_of_keepsAt (keepsAt_disableList (.inr fun y hy => ?_)) hended
      rcases hended with h | h
      all_goals
        obtain rfl := Option.some.inj (h.symm.trans hy)
        rfl
    · obtain ⟨y, hy, hsame⟩ := keepsAt_disableOne_ne s hji x hx
      obtain rfl := eq_of_sameOrReleased hsame (isHeld_of_queued hq)
      exact ih ((List.mem_cons.mp hj).resolve_left hji) hy

/-! ## The slots that an activation disables -/

/-- A slot is enabled in one bank and not in another. -/
def Bank.disables (old new : Bank) (n : SlotIx) : Prop :=
  old.slotTable[n].enabled = true ∧ new.slotTable[n].enabled = false

theorem disableSlot_of_disabled {s : State} {old : Bank} {n : SlotIx} (h : old.disables s.active n) :
    s.disableSlot old n = s.disableList (s.slot n).queue := by
  obtain ⟨hold, hnew⟩ := h
  exact if_pos ⟨hold, by rw [State.slotConfig, hnew]; rfl⟩

theorem disableSlot_of_not_disabled {s : State} {old : Bank} {n : SlotIx} (h : ¬ old.disables s.active n) :
    s.disableSlot old n = s := by
  refine if_neg fun ⟨hold, hnew⟩ => h ⟨hold, ?_⟩
  simpa [State.slotConfig] using hnew

/-- The slots of a list are disabled one after another: the exchanges that this ends are those of their Slot Queues. -/
theorem exists_disableList (s : State) (old : Bank) (ns : List SlotIx) :
    ∃ is, ns.foldl (fun u n => u.disableSlot old n) s = s.disableList is
      ∧ (∀ i ∈ is, ∃ n, old.disables s.active n ∧ i ∈ (s.slot n).queue)
      ∧ ∀ n ∈ ns, old.disables s.active n → ∀ i ∈ (s.slot n).queue, i ∈ is := by
  induction ns generalizing s with
  | nil => exact ⟨[], rfl, by simp, by simp⟩
  | cons n ns ih =>
    by_cases hn : old.disables s.active n
    · obtain ⟨is, heq, hfrom, hall⟩ := ih (s.disableList (s.slot n).queue)
      have hactive : (s.disableList (s.slot n).queue).active = s.active :=
        active_of_setting_eq (setting_of_ground_eq (ground_disableList ..))
      rw [hactive] at hfrom hall
      refine ⟨(s.slot n).queue ++ is, ?_, fun i hi => ?_, fun m hm hdis i hi => ?_⟩
      · rw [List.foldl_cons, disableSlot_of_disabled hn, heq, disableList_append]
      · rcases List.mem_append.mp hi with hi | hi
        · exact ⟨n, hn, hi⟩
        · obtain ⟨m, hm, hmem⟩ := hfrom i hi
          exact ⟨m, hm, queue_disableList_subset s _ m hmem⟩
      · rcases List.mem_cons.mp hm with rfl | hm
        · exact List.mem_append_left is hi
        · by_cases hmem : i ∈ (s.slot n).queue
          · exact List.mem_append_left is hmem
          · exact List.mem_append_right _ (hall m hm hdis i (mem_queue_disableList hi hmem))
    · obtain ⟨is, heq, hfrom, hall⟩ := ih s
      refine ⟨is, ?_, hfrom, fun m hm hdis => ?_⟩
      · rw [List.foldl_cons, disableSlot_of_not_disabled hn, heq]
      · exact hall m ((List.mem_cons.mp hm).resolve_left fun h => hn (h ▸ hdis)) hdis

/-! ## TABLE_ACTIVATED (R151) -/

/-- Each link of a list is told of the new manager, with the data of the notice. -/
def State.announceTo (s : State) (m : CtrlIx) (data : List Byte) (ls : List CtrlIx) : State :=
  ls.foldl (fun u l => u.notify l .tableActivated (ctrlByte m) .none data) s

/-- The links that are UP. -/
def State.upLinks (s : State) : List CtrlIx := (List.finRange 4).filter fun l => (s.ctrl l).link.state == .up

theorem nodup_upLinks (s : State) : s.upLinks.Nodup := (List.nodup_finRange 4).filter _

section Announce

variable (s : State) (m : CtrlIx) (data : List Byte)

theorem announceTo_cons (l : CtrlIx) (ls : List CtrlIx) : s.announceTo m data (l :: ls)
    = (s.notify l .tableActivated (ctrlByte m) .none data).announceTo m data ls := rfl

theorem slot_announceTo (ls : List CtrlIx) (n : SlotIx) : (s.announceTo m data ls).slot n = s.slot n :=
  foldl_keeps _ (·.slot n) (fun u l => slot_notify u l _ _ _ _ n) ls s

theorem exchange_announceTo (ls : List CtrlIx) (i : XtIx) : (s.announceTo m data ls).exchange i = s.exchange i :=
  foldl_keeps _ (·.exchange i) (fun u l => exchange_notify u l _ _ _ _ i) ls s

theorem setting_announceTo (ls : List CtrlIx) : (s.announceTo m data ls).setting = s.setting :=
  foldl_keeps (fun u l => u.notify l .tableActivated (ctrlByte m) .none data) State.setting (fun _ _ => rfl) ls s

theorem admissionOrder_announceTo (ls : List CtrlIx) : (s.announceTo m data ls).admissionOrder = s.admissionOrder :=
  foldl_keeps (fun u l => u.notify l .tableActivated (ctrlByte m) .none data) State.admissionOrder
    (fun _ _ => rfl) ls s

theorem noticeId_announceTo (ls : List CtrlIx) :
    (s.announceTo m data ls).noticeId = s.noticeId + BitVec.ofNat 8 ls.length := by
  induction ls generalizing s with
  | nil => exact (BitVec.add_zero _).symm
  | cons l ls ih => rw [announceTo_cons, ih, noticeId_notify, List.length_cons, noticeId_succ_add]

theorem ctrl_announceTo_of_not_mem {l : CtrlIx} {ls : List CtrlIx} (h : l ∉ ls) :
    (s.announceTo m data ls).ctrl l = s.ctrl l := by
  induction ls generalizing s with
  | nil => rfl
  | cons k ls ih =>
    obtain ⟨hk, hls⟩ := List.ne_and_not_mem_of_not_mem_cons h
    rw [announceTo_cons, ih _ hls, ctrl_notify_ne _ _ _ _ _ hk.symm]

/-- A link of the list gets one notice, under the id of its place. -/
theorem ctrl_announceTo_of_mem {l : CtrlIx} {ls : List CtrlIx} (hnodup : ls.Nodup) (h : l ∈ ls) :
    (s.announceTo m data ls).ctrl l = (s.ctrl l).addNotice
      ⟨s.noticeId + BitVec.ofNat 8 (ls.idxOf l), .tableActivated, ctrlByte m, .none, data⟩ := by
  induction ls generalizing s with
  | nil => cases h
  | cons k ls ih =>
    obtain ⟨hk, hls⟩ := List.nodup_cons.mp hnodup
    rw [announceTo_cons]
    by_cases hkl : k = l
    · subst hkl
      rw [ctrl_announceTo_of_not_mem _ _ _ hk, ctrl_notify, if_pos rfl, List.idxOf_cons_self, BitVec.add_zero]
    · rw [ih _ hls ((List.mem_cons.mp h).resolve_left (Ne.symm hkl)), ctrl_notify_ne _ _ _ _ _ hkl, noticeId_notify,
        noticeId_succ_add, List.idxOf_cons_ne _ hkl]

theorem station_notify (l k : CtrlIx) : ((s.notify l .tableActivated (ctrlByte m) .none data).ctrl k).station
    = (s.ctrl k).station := by
  rw [ctrl_notify]
  split
  next h =>
    subst h
    exact station_addNotices _ [_]
  next => rfl

/-- Of a link's own, a notice changes only the Notice Queue and its lost flag. -/
theorem station_announceTo (ls : List CtrlIx) (k : CtrlIx) :
    ((s.announceTo m data ls).ctrl k).station = (s.ctrl k).station :=
  foldl_keeps _ (fun u => (u.ctrl k).station) (fun u l => station_notify u m data l k) ls s

/-- Going through links and telling those that are UP is telling the ones of them that are UP. -/
theorem foldl_announce (ls : List CtrlIx) : ls.foldl (fun u l => u.announce m l) s
    = s.announceTo m (be16 s.epoch.toNat) (ls.filter fun l => (s.ctrl l).link.state == .up) := by
  induction ls generalizing s with
  | nil => rfl
  | cons l ls ih =>
    rw [List.foldl_cons, ih]
    by_cases hl : (s.ctrl l).link.state = .up
    · have hup : ∀ k, ((s.announce m l).ctrl k).link = (s.ctrl k).link := fun k => by
        rw [State.announce, if_pos hl]
        exact congrArg Prod.fst (station_notify s m _ l k)
      have hone : s.announce m l = s.notify l .tableActivated (ctrlByte m) .none (be16 s.epoch.toNat) := if_pos hl
      simp only [hup]
      rw [List.filter_cons_of_pos (by simp [hl]), announceTo_cons, hone]
      rfl
    · have hstay : s.announce m l = s := if_neg hl
      rw [hstay, List.filter_cons_of_neg (by simp [hl])]

end Announce

/-! ## The steps of an activation (R151) -/

theorem epoch_of_setting_eq {s t : State} (h : t.setting = s.setting) : t.epoch = s.epoch :=
  congrArg (fun e => e.2.2.2.2.1) h

/-- The staged bank is copied into the active bank, and the epoch counts. -/
def State.copied (s : State) : State := { s with active := s.staged, epoch := s.epoch + 1 }

/-- The links that are told are those that were UP, and the work that ends is that of the slots now disabled. -/
theorem exists_activateNow (s : State) (m : CtrlIx) :
    ∃ is, s.activateNow m = (s.copied.disableList is).announceTo m (be16 (s.epoch + 1).toNat) s.upLinks
      ∧ (∀ i ∈ is, ∃ n, s.active.disables s.staged n ∧ i ∈ (s.slot n).queue)
      ∧ ∀ n, s.active.disables s.staged n → ∀ i ∈ (s.slot n).queue, i ∈ is := by
  obtain ⟨is, heq, hfrom, hall⟩ := exists_disableList s.copied s.active (List.finRange 8)
  refine ⟨is, ?_, hfrom, fun n => hall n (List.mem_finRange n)⟩
  have hlinks : ∀ l, ((s.copied.disableList is).ctrl l).link = (s.ctrl l).link := fun l =>
    congrArg Prod.fst (station_of_unlisted_eq (unlisted_disableList s.copied is l))
  have hepoch : (s.copied.disableList is).epoch = s.epoch + 1 :=
    epoch_of_setting_eq (setting_of_ground_eq (ground_disableList s.copied is))
  have hsteps : s.activateNow m = (List.finRange 4).foldl (fun u l => u.announce m l)
      ((List.finRange 8).foldl (fun u n => u.disableSlot s.active n) s.copied) := rfl
  rw [hsteps, heq, foldl_announce, hepoch]
  simp only [hlinks, State.upLinks]

section Activated

variable (s : State) (m : CtrlIx)

theorem setting_activateNow : (s.activateNow m).setting = s.copied.setting := by
  obtain ⟨is, heq, -, -⟩ := exists_activateNow s m
  rw [heq, setting_announceTo, setting_of_ground_eq (ground_disableList ..)]

theorem admissionOrder_activateNow : (s.activateNow m).admissionOrder = s.admissionOrder := by
  obtain ⟨is, heq, -, -⟩ := exists_activateNow s m
  rw [heq, admissionOrder_announceTo]
  exact congrArg (fun g => g.2.2.1) (ground_disableList s.copied is)

theorem noticeId_disableList_copied (is : List XtIx) : (s.copied.disableList is).noticeId = s.noticeId :=
  congrArg (fun g => g.2.2.2.2.1) (ground_disableList s.copied is)

theorem noticeId_activateNow : (s.activateNow m).noticeId = s.noticeId + BitVec.ofNat 8 s.upLinks.length := by
  obtain ⟨is, heq, -, -⟩ := exists_activateNow s m
  rw [heq, noticeId_announceTo, noticeId_disableList_copied]

theorem unqueued_activateNow (n : SlotIx) : ((s.activateNow m).slot n).unqueued = (s.slot n).unqueued := by
  obtain ⟨is, heq, -, -⟩ := exists_activateNow s m
  rw [heq, slot_announceTo]
  exact unqueued_disableList s.copied is n

theorem station_activateNow (l : CtrlIx) : ((s.activateNow m).ctrl l).station = (s.ctrl l).station := by
  obtain ⟨is, heq, -, -⟩ := exists_activateNow s m
  rw [heq, station_announceTo]
  exact station_of_unlisted_eq (unlisted_disableList s.copied is l)

theorem replyQ_of_station_eq {b b' : CtrlBlock} (h : b'.station = b.station) : b'.replyQ = b.replyQ :=
  congrArg (fun p => p.2.1) h

theorem noticeQ_of_unlisted_eq {b b' : CtrlBlock} (h : b'.unlisted = b.unlisted) : b'.noticeQ = b.noticeQ := by
  have hqueue := congrArg CtrlBlock.noticeQ h
  exact hqueue

variable {s}

theorem noticeQ_activateNow_of_not_up {l : CtrlIx} (h : l ∉ s.upLinks) :
    ((s.activateNow m).ctrl l).noticeQ = (s.ctrl l).noticeQ := by
  obtain ⟨is, heq, -, -⟩ := exists_activateNow s m
  rw [heq, ctrl_announceTo_of_not_mem _ _ _ h]
  exact noticeQ_of_unlisted_eq (unlisted_disableList s.copied is l)

theorem noticeQ_activateNow_of_up {l : CtrlIx} (h : l ∈ s.upLinks) (hroom : (s.ctrl l).noticeQ.length < 16) :
    ((s.activateNow m).ctrl l).noticeQ = (s.ctrl l).noticeQ ++ [⟨s.noticeId + BitVec.ofNat 8 (s.upLinks.idxOf l),
      .tableActivated, ctrlByte m, .none, be16 (s.epoch + 1).toNat⟩] := by
  obtain ⟨is, heq, -, -⟩ := exists_activateNow s m
  have hqueue : ((s.copied.disableList is).ctrl l).noticeQ = (s.ctrl l).noticeQ :=
    noticeQ_of_unlisted_eq (unlisted_disableList s.copied is l)
  rw [heq, ctrl_announceTo_of_mem _ _ _ (nodup_upLinks s) h, addNotice_of_room _ (hqueue ▸ hroom),
    hqueue, noticeId_disableList_copied]

/-- The queued work of a slot that is now disabled ends (R64). -/
theorem exchange_activateNow_of_disabled {n : SlotIx} (hn : s.active.disables s.staged n) {i : XtIx}
    (hi : i ∈ (s.slot n).queue) {x : Exchange} (hx : s.exchange i = some x) (hq : x.isQueued = true) :
    (s.activateNow m).exchange i = some (x.withPhase (.held (.relay .slotDisabled)))
      ∨ (s.activateNow m).exchange i = some (x.withPhase (.released (.relay .slotDisabled))) := by
  obtain ⟨is, heq, -, hall⟩ := exists_activateNow s m
  rw [heq, exchange_announceTo]
  exact exchange_disableList_of_queued (s := s.copied) (hall n hn i hi) hx hq

/-- Other queued work stays where it is. -/
theorem exchange_activateNow_of_queued {i : XtIx} {x : Exchange} (hx : s.exchange i = some x)
    (hq : x.isQueued = true) (hout : ∀ n, s.active.disables s.staged n → i ∉ (s.slot n).queue) :
    (s.activateNow m).exchange i = some x
      ∧ ∀ n, i ∈ (s.slot n).queue → i ∈ ((s.activateNow m).slot n).queue := by
  obtain ⟨is, heq, hfrom, -⟩ := exists_activateNow s m
  have hi : i ∉ is := fun hi => by
    obtain ⟨n, hn, hmem⟩ := hfrom i hi
    exact hout n hn hmem
  refine ⟨?_, fun n hn => ?_⟩
  · obtain ⟨y, hy, hsame⟩ := keepsAt_disableList (s := s.copied) (.inl hi) x hx
    obtain rfl := eq_of_sameOrReleased hsame (isHeld_of_queued hq)
    rw [heq, exchange_announceTo, hy]
  · rw [heq, slot_announceTo]
    exact mem_queue_disableList (s := s.copied) hn hi

theorem keepsAt_activateNow_of_not_queued {i : XtIx} (h : ∀ x, s.exchange i = some x → x.isQueued = false) :
    s.KeepsAt (s.activateNow m) i := by
  obtain ⟨is, heq, -, -⟩ := exists_activateNow s m
  intro x hx
  rw [heq, exchange_announceTo]
  exact keepsAt_disableList (s := s.copied) (.inr h) x hx

end Activated

/-! ## The checks (R150) -/

theorem activateCheck_of_no_manager {s : State} (h : s.staged.managers = []) : s.activateCheck = .error .noManager := by
  simp only [State.activateCheck, h]

theorem activateCheck_of_managers {s : State} (h : 2 ≤ s.staged.managers.length) :
    s.activateCheck = .error .twoManagers := by
  unfold State.activateCheck
  split
  next hnone => simp [hnone] at h
  next hone => simp [hone] at h
  next => rfl

theorem activateCheck_of_down {s : State} {m : CtrlIx} (h : s.staged.managers = [m])
    (hm : (s.ctrl m).link.state ≠ .up) : s.activateCheck = .error .managerDown := by
  simp only [State.activateCheck, h, if_neg hm]

theorem activateCheck_of_up {s : State} {m : CtrlIx} (h : s.staged.managers = [m])
    (hm : (s.ctrl m).link.state = .up) : s.activateCheck = .ok m := by
  simp only [State.activateCheck, h, if_pos hm]

/-! ## Taking the request, and its answer -/

section Activate

variable {s : State} {l : CtrlIx} {tag : Byte} (h : s.takes l (.mgmt tag 0x08 [])) (hm : s.isManager l = true)

include h hm

theorem execActivate_of_error {r : ReplyResult} (hc : (s.tookFrame l).activateCheck = .error r) :
    execActivate l s = .next ((s.tookFrame l).answer l tag r []).settle := by
  rw [execActivate, mgmtRequest_of_takes h (wanted := (· == activateCode)) (beq_self_eq_true _),
    privileged_of_isManager (s := s.tookFrame l) hm, noArgs_nil]
  simp only [hc]

theorem execActivate_of_ok {m : CtrlIx} (hc : (s.tookFrame l).activateCheck = .ok m) :
    execActivate l s = .next (((s.tookFrame l).activateNow m).answer l tag .ok []).settle := by
  rw [execActivate, mgmtRequest_of_takes h (wanted := (· == activateCode)) (beq_self_eq_true _),
    privileged_of_isManager (s := s.tookFrame l) hm, noArgs_nil]
  simp only [hc]

end Activate

/-- Taking a frame changes only the link part of a Controller Link, and not its state. -/
theorem ctrl_tookFrame (s : State) (l k : CtrlIx) :
    ∃ b : LinkBlock, b.state = (s.ctrl k).link.state ∧ (s.tookFrame l).ctrl k = { s.ctrl k with link := b } := by
  rw [State.tookFrame, ctrl_onCtrl]
  split
  next hlk =>
    subst hlk
    exact ⟨(s.ctrl l).link.takeHead, rfl, rfl⟩
  next => exact ⟨(s.ctrl k).link, rfl, rfl⟩

section TookFrame

variable (s : State) (l k : CtrlIx)

theorem linkState_tookFrame : ((s.tookFrame l).ctrl k).link.state = (s.ctrl k).link.state := by
  obtain ⟨b, hb, heq⟩ := ctrl_tookFrame s l k
  rw [heq, hb]

theorem noticeQ_tookFrame : ((s.tookFrame l).ctrl k).noticeQ = (s.ctrl k).noticeQ := by
  obtain ⟨b, -, heq⟩ := ctrl_tookFrame s l k
  rw [heq]

theorem replyQ_tookFrame : ((s.tookFrame l).ctrl k).replyQ = (s.ctrl k).replyQ := by
  obtain ⟨b, -, heq⟩ := ctrl_tookFrame s l k
  rw [heq]

theorem upLinks_tookFrame : (s.tookFrame l).upLinks = s.upLinks := by
  simp only [State.upLinks, linkState_tookFrame]

end TookFrame

section Answered

variable (s : State) (l : CtrlIx) (tag : Byte) (r : ReplyResult) (d : List Byte)

theorem setting_answer_settle : (s.answer l tag r d).settle.setting = s.setting := rfl
theorem noticeId_answer_settle : (s.answer l tag r d).settle.noticeId = s.noticeId := rfl
theorem admissionOrder_answer_settle : (s.answer l tag r d).settle.admissionOrder = s.admissionOrder := rfl
theorem exchange_answer_settle (i : XtIx) : (s.answer l tag r d).settle.exchange i = s.exchange i := rfl

/-- Of a slot, only the stall timer of its link moves. -/
theorem slot_answer_settle (n : SlotIx) :
    ∃ b : LinkBlock, (s.answer l tag r d).settle.slot n = { s.slot n with link := b } := by
  rw [slot_settle]
  exact ⟨_, rfl⟩

theorem noticeQ_answer_settle (k : CtrlIx) : ((s.answer l tag r d).settle.ctrl k).noticeQ = (s.ctrl k).noticeQ := by
  rw [ctrl_settle, State.answer, State.queueReply, ctrl_onCtrl]
  split
  next hlk =>
    subst hlk
    rfl
  next => rfl

theorem replyQ_answer_settle (k : CtrlIx) : ((s.answer l tag r d).settle.ctrl k).replyQ
    = if k = l then (s.ctrl l).replyQ ++ [.reply tag .mgmt r d] else (s.ctrl k).replyQ := by
  rw [ctrl_settle, State.answer, State.queueReply, ctrl_onCtrl]
  by_cases hlk : l = k
  · subst hlk
    simp [CtrlBlock.onLink]
  · simp [CtrlBlock.onLink, hlk, Ne.symm hlk]

end Answered

/-- Settles O33: each check that fails gives its result, and where all pass the parts of the state are those that the
steps of R151 leave. -/
theorem activateCopiesTheStagedBank : Obligations.ActivateCopiesTheStagedBank := by
  intro l tag s h hm refused up
  have refuse {r : ReplyResult} (hc : (s.tookFrame l).activateCheck = .error r) :
      exec (.activate l) s = .next (refused r).settle := execActivate_of_error h hm hc
  refine ⟨fun hnone => refuse (activateCheck_of_no_manager hnone),
    fun hmany => refuse (activateCheck_of_managers hmany),
    fun m hone hdown => refuse (activateCheck_of_down hone (linkState_tookFrame s l m ▸ hdown)),
    fun m hone hup =>
      ⟨_, execActivate_of_ok h hm (activateCheck_of_up hone ((linkState_tookFrame s l m).trans hup)), ?_⟩⟩
  have hlinks : (s.tookFrame l).upLinks = up := upLinks_tookFrame s l
  have hsetting := (setting_answer_settle _ l tag .ok []).trans (setting_activateNow (s.tookFrame l) m)
  simp only [State.setting, State.tables, Prod.mk.injEq] at hsetting
  obtain ⟨hnow, -, hstaged, hactive, hepoch, hcounter, -⟩ := hsetting
  refine ⟨hactive, hstaged, hepoch, ?id, fun k hk hroom => ?told, fun k hk => ?notTold, fun k => ?replied,
    fun n i hi x hx hq hold hnew => ?ended, fun i x hx hq hout => ?queued, fun i x hx hq => ?others, fun n => ?slot,
    hnow, hcounter, ?order⟩
  case id => rw [noticeId_answer_settle, noticeId_activateNow, hlinks, noticeId_tookFrame]
  case told =>
    rw [noticeQ_answer_settle, noticeQ_activateNow_of_up m (hlinks ▸ hk) ((noticeQ_tookFrame s l k).symm ▸ hroom),
      noticeQ_tookFrame, hlinks, noticeId_tookFrame, epoch_tookFrame]
  case notTold => rw [noticeQ_answer_settle, noticeQ_activateNow_of_not_up m (hlinks ▸ hk), noticeQ_tookFrame]
  case replied =>
    have hreplies : ∀ j, (((s.tookFrame l).activateNow m).ctrl j).replyQ = (s.ctrl j).replyQ := fun j =>
      (replyQ_of_station_eq (station_activateNow (s.tookFrame l) m j)).trans (replyQ_tookFrame s l j)
    rw [replyQ_answer_settle, hreplies, hreplies]
  case ended =>
    rw [exchange_answer_settle]
    exact exchange_activateNow_of_disabled (s := s.tookFrame l) m ⟨hold, hnew⟩ hi hx hq
  case queued =>
    obtain ⟨hexchange, hqueue⟩ := exchange_activateNow_of_queued (s := s.tookFrame l) m hx hq fun n hn hi => by
      obtain ⟨hold, hnew⟩ := hn
      exact Bool.false_ne_true (hnew.symm.trans (hout n hi hold))
    refine ⟨by rw [exchange_answer_settle, hexchange], fun n hn => ?_⟩
    obtain ⟨b, hb⟩ := slot_answer_settle ((s.tookFrame l).activateNow m) l tag .ok [] n
    simp only [hb]
    exact hqueue n hn
  case others =>
    rw [exchange_answer_settle]
    refine keepsAt_activateNow_of_not_queued (s := s.tookFrame l) m (fun y hy => ?_) x hx
    obtain rfl : x = y := Option.some.inj (hx.symm.trans hy)
    exact hq
  case slot =>
    obtain ⟨b, hb⟩ := slot_answer_settle ((s.tookFrame l).activateNow m) l tag .ok [] n
    have hslot := unqueued_activateNow (s.tookFrame l) m n
    simp only [SlotBlock.unqueued, SlotBlock.mk.injEq] at hslot
    obtain ⟨-, -, -, horphans, hresv, hstate, hfault⟩ := hslot
    simp only [hb]
    exact ⟨hresv, hstate, horphans, hfault⟩
  case order => rw [admissionOrder_answer_settle, admissionOrder_activateNow, admissionOrder_tookFrame]

end Sys2Proof.Machine
end

section
/-! PROOFS. READ_IDENT, and the checks that every management request meets first (Section 10, R156 to R158). -/

namespace Sys2Proof.Machine

open Sys2Proof

/-! ## The requests (Table 10.1) -/

theorem exec_readIdent (l : CtrlIx) (s : State) : exec (.readIdent l) s = execReadIdent l s := rfl
theorem exec_readEntry (l : CtrlIx) (s : State) : exec (.readEntry l) s = execReadEntry l s := rfl
theorem exec_readSlot (l : CtrlIx) (s : State) : exec (.readSlot l) s = execReadSlot l s := rfl
theorem exec_readExchange (l : CtrlIx) (s : State) : exec (.readExchange l) s = execReadExchange l s := rfl
theorem exec_readStore (l : CtrlIx) (s : State) : exec (.readStore l) s = execReadStore l s := rfl
theorem exec_writeEntry (l : CtrlIx) (s : State) : exec (.writeEntry l) s = execWriteEntry l s := rfl
theorem exec_activate (l : CtrlIx) (s : State) : exec (.activate l) s = execActivate l s := rfl
theorem exec_relayRestart (l : CtrlIx) (s : State) : exec (.relayRestart l) s = execRelayRestart l s := rfl
theorem exec_mgmtUnknownRequest (l : CtrlIx) (s : State) :
    exec (.mgmtUnknownRequest l) s = execMgmtUnknownRequest l s := rfl

/-! ## The checks of R156 -/

/-- A request of the code asked for that is only answered. -/
theorem mgmtRequest_of_answer {s : State} {l : CtrlIx} {tag code : Byte} {args : List Byte}
    (h : s.takes l (.mgmt tag code args)) {effect : Byte → List Byte → State → State} {r : ReplyResult} {d : List Byte}
    (heffect : effect tag args (s.tookFrame l) = (s.tookFrame l).answer l tag r d) :
    s.mgmtRequest l (· == code) effect = .next ((s.tookFrame l).answer l tag r d).settle := by
  rw [mgmtRequest_of_takes h (wanted := (· == code)) (beq_self_eq_true code), heffect]

/-- Check 1: a code outside Table 10.1 names no request. -/
theorem not_knownRequest {code : Byte} (h : code.toNat = 0 ∨ 12 < code.toNat) : (!knownRequest code) = true := by
  simp [knownRequest]
  omega

/-- Check 2, at the moment at which the request has been taken. -/
theorem privileged_tookFrame {s : State} {l : CtrlIx} (hm : s.isManager l = true) (tag : Byte)
    (effect : State → State) : (s.tookFrame l).privileged l tag effect = effect (s.tookFrame l) :=
  privileged_of_isManager (s := s.tookFrame l) hm tag effect

/-- Check 3, for a request without arguments. -/
theorem noArgs_of_ne_nil (s : State) (l : CtrlIx) (tag : Byte) {args : List Byte} (h : args ≠ [])
    (effect : State → State) : s.noArgs l tag args effect = s.answer l tag .badRequest [] := by
  cases args with
  | nil => exact absurd rfl h
  | cons a args => rfl

/-- Check 3, for a request with one argument byte. -/
theorem oneArg_of_length_ne (s : State) (l : CtrlIx) (tag : Byte) {args : List Byte} (h : args.length ≠ 1)
    (effect : Byte → State → State) : s.oneArg l tag args effect = s.answer l tag .badRequest [] := by
  match args with
  | [] => rfl
  | [_] => exact absurd rfl h
  | _ :: _ :: _ => rfl

theorem execReadEntry_of_length_ne {s : State} {l : CtrlIx} {tag : Byte} {args : List Byte}
    (h : s.takes l (.mgmt tag 0x02 args)) (hargs : args.length ≠ 3) :
    execReadEntry l s = .next ((s.tookFrame l).answer l tag .badRequest []).settle := by
  refine mgmtRequest_of_answer h ?_
  match args with
  | [] | [_] | [_, _] => rfl
  | [_, _, _] => exact absurd rfl hargs
  | _ :: _ :: _ :: _ :: _ => rfl

/-! ## READ_IDENT (R158) -/

/-- Settles O28: the request takes no argument, and its data and the HELLO carry the same two numbers. -/
theorem readIdentGivesPartAndRevision : Obligations.ReadIdentGivesPartAndRevision := by
  intro l tag args s h answered
  rw [exec_readIdent]
  refine ⟨fun hargs => ?_, fun hargs => ?_, fun places => rfl⟩
  · subst hargs
    exact mgmtRequest_of_answer (code := readIdentCode) h (noArgs_nil _ l tag _)
  · exact mgmtRequest_of_answer (code := readIdentCode) h (noArgs_of_ne_nil _ l tag hargs _)

/-! ## Every request (R156) -/

/-- Settles O38: the three checks in their order, each for the requests that it refuses. -/
theorem managementChecksComeFirst : Obligations.ManagementChecksComeFirst := by
  intro l tag args s answered
  simp only [exec_mgmtUnknownRequest, exec_writeEntry, exec_revert, exec_activate, exec_noticeAck, exec_slotClear,
    exec_slotReset, exec_relayRestart, exec_readEntry, exec_readSlot, exec_readExchange, exec_readStore]
  refine ⟨fun code h hcode => ?unknown, fun hm => ?notManager, fun hargs h => execReadEntry_of_length_ne h hargs,
    fun hargs => ?oneArg, fun hargs => ?noArgs⟩
  case unknown => exact mgmtRequest_of_takes h (wanted := (!knownRequest ·)) (not_knownRequest hcode) _
  case notManager =>
    have refused (effect : State → State) : (s.tookFrame l).privileged l tag effect
        = (s.tookFrame l).answer l tag .notManager [] := privileged_of_not_isManager (s := s.tookFrame l) hm tag effect
    exact ⟨fun h => mgmtRequest_of_answer (code := writeEntryCode) h (refused _),
      fun h => mgmtRequest_of_answer (code := revertCode) h (refused _),
      fun h => mgmtRequest_of_answer (code := activateCode) h (refused _),
      fun h => mgmtRequest_of_answer (code := noticeAckCode) h (refused _),
      fun h => mgmtRequest_of_answer (code := slotClearCode) h (refused _),
      fun h => mgmtRequest_of_answer (code := slotResetCode) h (refused _),
      fun h => mgmtRequest_of_answer (code := relayRestartCode) h (refused _)⟩
  case oneArg =>
    have refused := oneArg_of_length_ne (s.tookFrame l) l tag hargs
    refine ⟨fun h => mgmtRequest_of_answer (code := readSlotCode) h (refused _),
      fun h => mgmtRequest_of_answer (code := readExchangeCode) h (refused _), fun hm => ?_⟩
    have passed := privileged_tookFrame hm tag
    exact ⟨fun h => mgmtRequest_of_answer (code := noticeAckCode) h ((passed _).trans (refused _)),
      fun h => mgmtRequest_of_answer (code := slotClearCode) h ((passed _).trans (refused _)),
      fun h => mgmtRequest_of_answer (code := slotResetCode) h ((passed _).trans (refused _))⟩
  case noArgs =>
    have refused := noArgs_of_ne_nil (s.tookFrame l) l tag hargs
    refine ⟨fun h => mgmtRequest_of_answer (code := readStoreCode) h (refused _), fun hm => ?_⟩
    have passed := privileged_tookFrame hm tag
    exact ⟨fun h => mgmtRequest_of_answer (code := revertCode) h ((passed _).trans (refused _)),
      fun h => mgmtRequest_of_answer (code := activateCode) h ((passed _).trans (refused _)),
      fun h => mgmtRequest_of_answer (code := relayRestartCode) h ((passed _).trans (refused _))⟩

end Sys2Proof.Machine
end

section
/-! PROOFS. What a RELAY_RESTART does to one entry (Sections 5 and 6, R87, R96, R107, Table 6.5): its phase, the Release
Queue of its link, the pools, and what its slot keeps of it. -/

namespace Sys2Proof.Machine

open Sys2Proof

/-! ## One entry (Table 6.5) -/

/-- The response that a RELAY_RESTART gives an exchange: the one it had, or RESTARTED. -/
def Exchange.restartResponse (x : Exchange) : Response :=
  match x.phase with
  | .held r | .released r => r
  | _ => .relay .restarted

/-- The exchange as a RELAY_RESTART leaves it. -/
def Exchange.restarted (x : Exchange) : Exchange := x.withPhase (.released x.restartResponse)

theorem restartResponse_of_ended {x : Exchange} {r : Response} (h : x.phase = .held r ∨ x.phase = .released r) :
    x.restartResponse = r := by
  rcases h with h | h <;> simp only [Exchange.restartResponse, h]

theorem restartResponse_of_unended {x : Exchange} (h : x.isEnded = false) :
    x.restartResponse = .relay .restarted := by
  rcases x with ⟨id, phase⟩
  cases phase with
  | held r | released r => cases h
  | _ => rfl

theorem restarted_of_released {x : Exchange} {r : Response} (h : x.phase = .released r) : x.restarted = x := by
  rw [Exchange.restarted, restartResponse_of_ended (.inr h), Exchange.withPhase, ← h]

theorem isReleased_iff {x : Exchange} : x.isReleased = true ↔ ∃ r, x.phase = .released r := by
  rcases x with ⟨id, phase⟩
  cases phase <;> simp [Exchange.isReleased, Exchange.isEnded, Exchange.isHeld]

/-- The slot side of an exchange is abandoned: a CANCEL joins its queue, and the exchange leaves it (R96, R107). -/
def State.abandonSlotSide (s : State) (i : XtIx) (x : Exchange) : State :=
  (s.queueCancel (s.relayTag i) x).closeSlotSide i x 0 x.orphans

theorem restartOne_of_free {s : State} {i : XtIx} (hx : s.exchange i = none) : s.restartOne i = s := by
  simp only [State.restartOne, hx]

theorem restartOne_of_released {s : State} {i : XtIx} {x : Exchange} {r : Response} (hx : s.exchange i = some x)
    (hp : x.phase = .released r) : s.restartOne i = s := by
  simp only [State.restartOne, hx, hp]

theorem restartOne_of_held {s : State} {i : XtIx} {x : Exchange} {r : Response} (hx : s.exchange i = some x)
    (hp : x.phase = .held r) : s.restartOne i = s.release x.id.link i r := by
  simp only [State.restartOne, hx, hp]

theorem restartOne_of_unended {s : State} {i : XtIx} {x : Exchange} (hx : s.exchange i = some x)
    (he : x.isEnded = false) :
    s.restartOne i = (s.abandonSlotSide i x).release x.id.link i (.relay .restarted) := by
  rcases x with ⟨id, phase⟩
  cases phase with
  | held r | released r => cases he
  | _ =>
    simp only [State.restartOne, hx]
    rfl

/-- An entry at a RELAY_RESTART has nothing to be answered, or its exchange is HELD, or its exchange has not ended. -/
theorem restartOne_cases (s : State) (i : XtIx) :
    (s.restartOne i = s ∧ ∀ x, s.exchange i = some x → x.isReleased = true)
    ∨ ∃ x, s.exchange i = some x ∧ x.isReleased = false
      ∧ ((∃ r, x.phase = .held r ∧ s.restartOne i = s.release x.id.link i r)
        ∨ x.isEnded = false
          ∧ s.restartOne i = (s.abandonSlotSide i x).release x.id.link i (.relay .restarted)) := by
  rcases exchange_eq_none_or_some s i with hx | ⟨x, hx⟩
  · exact .inl ⟨restartOne_of_free hx, by simp [hx]⟩
  · cases he : x.isEnded with
    | false => exact .inr ⟨x, hx, by simp [Exchange.isReleased, he], .inr ⟨he, restartOne_of_unended hx he⟩⟩
    | true =>
      obtain ⟨r, hp | hp⟩ := isEnded_iff.mp he
      · exact .inr ⟨x, hx, by simp [Exchange.isReleased, Exchange.isHeld, hp], .inl ⟨r, hp, restartOne_of_held hx hp⟩⟩
      · refine .inl ⟨restartOne_of_released hx hp, fun y hy => ?_⟩
        obtain rfl : x = y := Option.some.inj (hx.symm.trans hy)
        exact isReleased_iff.mpr ⟨r, hp⟩

/-! ## The entry, its link, the pools and the ground -/

theorem entries_abandonSlotSide (s : State) (i : XtIx) (x : Exchange) : (s.abandonSlotSide i x).entries = s.entries :=
  (entries_closeSlotSide ..).trans (stores_eq_iff.mp (stores_queueCancel ..)).1

theorem entry_abandonSlotSide (s : State) (i : XtIx) (x : Exchange) (j : XtIx) :
    (s.abandonSlotSide i x).entry j = s.entry j := by
  rw [State.entry, entries_abandonSlotSide, State.entry]

theorem ctrl_abandonSlotSide (s : State) (i : XtIx) (x : Exchange) (l : CtrlIx) :
    (s.abandonSlotSide i x).ctrl l = s.ctrl l :=
  (ctrl_closeSlotSide ..).trans (ctrl_queueCancel ..)

theorem ground_abandonSlotSide (s : State) (i : XtIx) (x : Exchange) : (s.abandonSlotSide i x).ground = s.ground :=
  (ground_closeSlotSide ..).trans (ground_queueCancel ..)

/-- Every pool gets back all that the exchange held of it. -/
theorem free_abandonSlotSide (s : State) (i : XtIx) (x : Exchange) (p : StorePool) :
    (s.abandonSlotSide i x).free p = s.free p + x.returns 0 p := by
  rw [State.abandonSlotSide, free_closeSlotSide, free_of_stores_eq (stores_queueCancel ..)]

theorem entry_release_self {s : State} {i : XtIx} {x : Exchange} (hx : s.exchange i = some x) (l : CtrlIx)
    (r : Response) : (s.release l i r).entry i = { s.entry i with live := some (x.withPhase (.released r)) } := by
  rw [State.release, setPhase_of_exchange hx, entry_onCtrl, entry_setEntry_self]

theorem entry_restartOne_ne (s : State) {i j : XtIx} (h : j ≠ i) : (s.restartOne i).entry j = s.entry j := by
  rcases restartOne_cases s i with ⟨heq, -⟩ | ⟨x, -, -, ⟨r, -, heq⟩ | ⟨-, heq⟩⟩
  · rw [heq]
  · rw [heq, entry_release_ne _ _ _ h]
  · rw [heq, entry_release_ne _ _ _ h, entry_abandonSlotSide]

theorem entry_restartOne_self (s : State) (i : XtIx) :
    (s.restartOne i).entry i = { s.entry i with live := (s.exchange i).map Exchange.restarted } := by
  rcases restartOne_cases s i with ⟨heq, hreleased⟩ | ⟨x, hx, -, ⟨r, hp, heq⟩ | ⟨he, heq⟩⟩
  · have hsame : (s.exchange i).map Exchange.restarted = s.exchange i := by
      rcases exchange_eq_none_or_some s i with hx | ⟨x, hx⟩
      · rw [hx, Option.map_none]
      · obtain ⟨r, hp⟩ := isReleased_iff.mp (hreleased x hx)
        rw [hx, Option.map_some, restarted_of_released hp]
    rw [heq, hsame]
    rfl
  · rw [heq, entry_release_self hx, hx, Option.map_some, Exchange.restarted, restartResponse_of_ended (.inl hp)]
  · have hxu : (s.abandonSlotSide i x).exchange i = some x := by rw [State.exchange, entry_abandonSlotSide]; exact hx
    rw [heq, entry_release_self hxu, entry_abandonSlotSide, hx, Option.map_some, Exchange.restarted,
      restartResponse_of_unended he]

/-- The exchange at an index is one of link l that a RELAY_RESTART has to release. -/
def State.awaitsRelease (s : State) (l : CtrlIx) (i : XtIx) : Bool :=
  s.exchangeIs i fun x => x.id.link == l && !x.isReleased

theorem awaitsRelease_of_exchange {s : State} {i : XtIx} {x : Exchange} (hx : s.exchange i = some x) (l : CtrlIx) :
    s.awaitsRelease l i = (x.id.link == l && !x.isReleased) := by
  simp only [State.awaitsRelease, State.exchangeIs, hx]

theorem ctrl_release_of_link (s : State) (k l : CtrlIx) (i : XtIx) (r : Response) :
    (s.release k i r).ctrl l = { s.ctrl l with releaseQ := (s.ctrl l).releaseQ ++ if k = l then [i] else [] } := by
  split
  next h => rw [← h, ctrl_release]
  next h => rw [State.release, ctrl_onCtrl_ne _ _ h, ctrl_setPhase, List.append_nil]

/-- An entry that is released joins the Release Queue of its link (R83, R87). -/
theorem ctrl_restartOne (s : State) (i : XtIx) (l : CtrlIx) : (s.restartOne i).ctrl l
    = { s.ctrl l with releaseQ := (s.ctrl l).releaseQ ++ [i].filter (s.awaitsRelease l) } := by
  rcases restartOne_cases s i with ⟨heq, hreleased⟩ | ⟨x, hx, hnot, hcase⟩
  · have hfalse : s.awaitsRelease l i = false := by
      rcases exchange_eq_none_or_some s i with hx | ⟨x, hx⟩
      · simp only [State.awaitsRelease, State.exchangeIs, hx]
      · rw [awaitsRelease_of_exchange hx, hreleased x hx, Bool.not_true, Bool.and_false]
    rw [heq, List.filter_singleton, hfalse, cond_false, List.append_nil]
  · have hawaits : [i].filter (s.awaitsRelease l) = if x.id.link = l then [i] else [] := by
      simp [List.filter_singleton, awaitsRelease_of_exchange hx, hnot]
    rw [hawaits]
    rcases hcase with ⟨r, -, heq⟩ | ⟨-, heq⟩
    · rw [heq, ctrl_release_of_link]
    · rw [heq, ctrl_release_of_link, ctrl_abandonSlotSide]

theorem ground_restartOne (s : State) (i : XtIx) : (s.restartOne i).ground = s.ground := by
  rcases restartOne_cases s i with ⟨heq, -⟩ | ⟨x, -, -, ⟨r, -, heq⟩ | ⟨-, heq⟩⟩
  · rw [heq]
  · rw [heq, ground_release]
  · rw [heq, ground_release, ground_abandonSlotSide]

/-- The pools keep their sums: what an exchange does not keep goes back (R67, R70). -/
theorem blocks_restartOne (s : State) (i : XtIx) : (s.restartOne i).blocks = s.blocks := by
  rcases restartOne_cases s i with ⟨heq, -⟩ | ⟨x, hx, -, ⟨r, hp, heq⟩ | ⟨-, heq⟩⟩
  · rw [heq]
  · rw [heq, ← releaseHeld_of_held hx hp, blocks_releaseHeld]
  · rw [heq]
    refine (blocks_of_stores_eq (stores_onCtrl ..)).trans
      (blocks_setPhase hx (entries_abandonSlotSide s i x) fun p => ?_)
    have hsum := returns_add_returns_of_ended (y := x.withPhase (.released (.relay .restarted)))
      (fits_relay x .restarted) rfl (.inr rfl) p
    have hkept : (Response.relay .restarted).keptBlocks = 0 := rfl
    rw [hkept] at hsum
    rw [free_abandonSlotSide]
    omega

/-! ## The slot side -/

/-- The exchange at an index is one of slot n that has not ended. -/
def State.worksAt (s : State) (n : SlotIx) (i : XtIx) : Bool := s.exchangeIs i fun x => x.id.slot == n && !x.isEnded

theorem worksAt_iff {s : State} {n : SlotIx} {i : XtIx} :
    s.worksAt n i = true ↔ ∃ x, s.exchange i = some x ∧ x.id.slot = n ∧ x.isEnded = false := by
  rcases exchange_eq_none_or_some s i with hx | ⟨x, hx⟩ <;> simp [State.worksAt, State.exchangeIs, hx]

/-- What the exchange at an index leaves at slot n when its slot side is abandoned. -/
def State.leavesAt (s : State) (n : SlotIx) (i : XtIx) : Option Remnant :=
  match s.exchange i with
  | some x => if x.id.slot = n then x.remnant (s.relayTag i) else none
  | none => none

theorem leavesAt_of_slot {s : State} {n : SlotIx} {i : XtIx} {x : Exchange} (hx : s.exchange i = some x)
    (hn : x.id.slot = n) : s.leavesAt n i = x.remnant (s.relayTag i) := by
  simp only [State.leavesAt, hx, if_pos hn]

/-- An exchange that has ended leaves nothing. -/
theorem leavesAt_of_not_worksAt {s : State} {n : SlotIx} {i : XtIx} (h : s.worksAt n i = false) :
    s.leavesAt n i = none := by
  rcases exchange_eq_none_or_some s i with hx | ⟨x, hx⟩
  · simp only [State.leavesAt, hx]
  · by_cases hn : x.id.slot = n
    · have he : x.isEnded = true := by
        simpa only [State.worksAt, State.exchangeIs, hx, hn, beq_self_eq_true, Bool.true_and,
          Bool.not_eq_false'] using h
      rw [leavesAt_of_slot hx hn, Exchange.remnant]
      obtain ⟨r, hp | hp⟩ := isEnded_iff.mp he <;> rw [hp] <;> rfl
    · simp only [State.leavesAt, hx, if_neg hn]

theorem worksAt_of_entry_eq {s t : State} {n : SlotIx} {i : XtIx} (h : t.entry i = s.entry i) :
    t.worksAt n i = s.worksAt n i := by
  simp only [State.worksAt, State.exchangeIs, State.exchange, h]

theorem leavesAt_of_entry_eq {s t : State} {n : SlotIx} {i : XtIx} (h : t.entry i = s.entry i) :
    t.leavesAt n i = s.leavesAt n i := by
  simp only [State.leavesAt, State.exchange, State.relayTag, h]

theorem slots_release (s : State) (l : CtrlIx) (i : XtIx) (r : Response) : (s.release l i r).slots = s.slots :=
  congrArg (fun e => e.2.1) (besideOrders_release s l i r)

/-- Of a slot without work of the exchange nothing changes. -/
theorem slot_restartOne_of_not_worksAt {s : State} {n : SlotIx} {i : XtIx} (h : s.worksAt n i = false) :
    (s.restartOne i).slot n = s.slot n := by
  rcases restartOne_cases s i with ⟨heq, -⟩ | ⟨x, hx, -, ⟨r, -, heq⟩ | ⟨he, heq⟩⟩
  · rw [heq]
  · rw [heq, State.slot, slots_release, State.slot]
  · have hn : x.id.slot ≠ n := fun hn => Bool.eq_false_iff.mp h (worksAt_iff.mpr ⟨x, hx, hn, he⟩)
    rw [heq, State.slot, slots_release, ← State.slot, State.abandonSlotSide, slot_closeSlotSide, if_neg hn,
      slot_queueCancel, if_neg hn]

/-- An exchange that has not ended leaves its slot as a teardown makes it leave (Tables 6.4 and 6.5). -/
theorem slot_restartOne_of_worksAt {s : State} {n : SlotIx} {i : XtIx} (h : s.worksAt n i = true) :
    (s.restartOne i).slot n = (((s.slot n).queueCancels (s.leavesAt n i).toList).close i (s.relayTag i)).adopt
      (s.orphansFor (s.leavesAt n i).toList) := by
  obtain ⟨x, hx, rfl, he⟩ := worksAt_iff.mp h
  have hteardown : (s.restartOne i).slot x.id.slot = (s.tearDownOne x.id.link i).slot x.id.slot := by
    rw [restartOne_of_unended hx he, State.slot, slots_release, tearDownOne_of_own hx rfl, slot_freeEntry]
    rfl
  rw [hteardown, slot_tearDownOne_of_own hx rfl, leavesAt_of_slot hx rfl]

end Sys2Proof.Machine
end

section
/-! PROOFS. RELAY_RESTART (Section 10, R159; Sections 5 to 7, R87, R96, R107, R123): every live entry in admission
order, the Order Lists, the reservation records, and the REPLY. -/

namespace Sys2Proof.Machine

open Sys2Proof

/-! ## A list of entries -/

/-- The entries of a list meet a RELAY_RESTART one after another. -/
def State.restartList (s : State) (is : List XtIx) : State := is.foldl State.restartOne s

theorem restartList_cons (s : State) (i : XtIx) (is : List XtIx) :
    s.restartList (i :: is) = (s.restartOne i).restartList is := rfl

theorem ground_restartList (s : State) (is : List XtIx) : (s.restartList is).ground = s.ground :=
  foldl_keeps _ State.ground ground_restartOne is s

theorem blocks_restartList (s : State) (is : List XtIx) : (s.restartList is).blocks = s.blocks :=
  foldl_keeps _ State.blocks blocks_restartOne is s

theorem entry_restartList_of_not_mem (s : State) {is : List XtIx} {j : XtIx} (h : j ∉ is) :
    (s.restartList is).entry j = s.entry j := by
  induction is generalizing s with
  | nil => rfl
  | cons i is ih =>
    obtain ⟨hi, his⟩ := List.ne_and_not_mem_of_not_mem_cons h
    rw [restartList_cons, ih _ his, entry_restartOne_ne s hi]

/-- An entry of the list has its exchange RELEASED, in the same generation. -/
theorem entry_restartList_of_mem (s : State) {is : List XtIx} (hnodup : is.Nodup) {j : XtIx} (h : j ∈ is) :
    (s.restartList is).entry j = { s.entry j with live := (s.exchange j).map Exchange.restarted } := by
  induction is generalizing s with
  | nil => cases h
  | cons i is ih =>
    obtain ⟨hi, hrest⟩ := List.nodup_cons.mp hnodup
    rw [restartList_cons]
    by_cases hji : j = i
    · subst hji
      rw [entry_restartList_of_not_mem _ hi, entry_restartOne_self]
    · have hstep := entry_restartOne_ne s hji
      rw [ih _ hrest ((List.mem_cons.mp h).resolve_left hji), State.exchange, hstep, State.exchange]

theorem entry_restartOne_of_mem_tail (s : State) {i : XtIx} {is : List XtIx} (hi : i ∉ is) :
    ∀ j ∈ is, (s.restartOne i).entry j = s.entry j :=
  fun _ hj => entry_restartOne_ne s (ne_of_mem_of_not_mem hj hi)

theorem awaitsRelease_of_entry_eq {s t : State} {l : CtrlIx} {i : XtIx} (h : t.entry i = s.entry i) :
    t.awaitsRelease l i = s.awaitsRelease l i := by
  simp only [State.awaitsRelease, State.exchangeIs, State.exchange, h]

/-- The released entries of a link join its Release Queue in the order of the list (R83). -/
theorem ctrl_restartList (s : State) {is : List XtIx} (hnodup : is.Nodup) (l : CtrlIx) :
    (s.restartList is).ctrl l
      = { s.ctrl l with releaseQ := (s.ctrl l).releaseQ ++ is.filter (s.awaitsRelease l) } := by
  induction is generalizing s with
  | nil => rw [List.filter_nil, List.append_nil]; rfl
  | cons i is ih =>
    obtain ⟨hi, hrest⟩ := List.nodup_cons.mp hnodup
    have hentry := entry_restartOne_of_mem_tail s hi
    have hsame : is.filter ((s.restartOne i).awaitsRelease l) = is.filter (s.awaitsRelease l) :=
      List.filter_congr fun j hj => awaitsRelease_of_entry_eq (hentry j hj)
    have hcons : (i :: is).filter (s.awaitsRelease l)
        = [i].filter (s.awaitsRelease l) ++ is.filter (s.awaitsRelease l) := List.filter_append [i] is
    rw [restartList_cons, ih _ hrest, ctrl_restartOne, hsame, hcons, List.append_assoc]

/-! ## What a slot keeps of the entries -/

/-- The slot's link is sending no ISSUE and no KEEP: nothing that a restart withdraws has begun to leave. -/
def LinkBlock.sendsNoIssueOrKeep (b : LinkBlock) : Prop :=
  ∀ t, b.sending ≠ some (.slotFrame (.issue t)) ∧ b.sending ≠ some (.slotFrame (.keep t))

/-- An exchange of the list that works at slot n has index j, and so leaves the Slot Queue at j (R15). -/
def State.vacates (s : State) (n : SlotIx) (is : List XtIx) (j : XtIx) : Bool :=
  is.any fun i => s.worksAt n i && i == j

/-- A frame is the ISSUE or the KEEP of an exchange of the list that works at slot n (R51). -/
def State.withdraws (s : State) (n : SlotIx) (is : List XtIx) (f : SlotFrame) : Bool :=
  is.any fun i => s.worksAt n i && (f == .issue (s.relayTag i) || f == .keep (s.relayTag i))

/-- The block b is slot n of s after the exchanges of the list have been answered. -/
def State.Answered (s : State) (n : SlotIx) (is : List XtIx) (b : SlotBlock) : Prop :=
  ∃ q, b = { s.slot n with
      queue := (s.slot n).queue.filter fun j => !s.vacates n is j
      orphans := (s.slot n).orphans ++ s.orphansFor (is.filterMap (s.leavesAt n))
      sendQ := q }
    ∧ ((s.slot n).link.sendsNoIssueOrKeep → q = ((s.slot n).sendQ.filter fun f => !s.withdraws n is f)
      ++ cancelsFor (is.filterMap (s.leavesAt n)))

theorem sendQ_withdraw_of_not_sending {b : SlotBlock} {f : SlotFrame} (h : b.link.sending ≠ some (.slotFrame f)) :
    (b.withdraw f).sendQ = b.sendQ.filter (· != f) := by
  rw [sendQ_withdraw]
  split
  next hs =>
    unfold SlotBlock.sendingHead at hs
    split at hs
    next g g' rest hg hq =>
      have hne : g' ≠ f := by
        rintro rfl
        exact h (by rw [hg, beq_iff_eq.mp hs])
      rw [hq, List.filter_cons_of_pos (p := (· != f)) (bne_iff_ne.mpr hne)]
      rfl
    next => cases hs
  next => rfl

theorem exists_sendQ_close (b : SlotBlock) (i : XtIx) (t : RelayTag) :
    ∃ q, b.close i t = { b with queue := b.queue.filter (· != i), sendQ := q }
      ∧ (b.link.sendsNoIssueOrKeep → q = b.sendQ.filter fun f => !(f == .issue t || f == .keep t)) := by
  obtain ⟨q, hq⟩ := exists_sendQ_withdraw { b with queue := b.queue.filter (· != i) } (.issue t)
  obtain ⟨q', hq'⟩ := exists_sendQ_withdraw { b with queue := b.queue.filter (· != i), sendQ := q } (.keep t)
  refine ⟨q', by rw [SlotBlock.close, hq, hq'], fun hidle => ?_⟩
  obtain ⟨hnoIssue, hnoKeep⟩ := hidle t
  have hissue : q = b.sendQ.filter (· != .issue t) := by
    have h := sendQ_withdraw_of_not_sending (b := { b with queue := b.queue.filter (· != i) }) hnoIssue
    rwa [hq] at h
  have hkeep : q' = q.filter (· != .keep t) := by
    have h := sendQ_withdraw_of_not_sending (b := { b with queue := b.queue.filter (· != i), sendQ := q }) hnoKeep
    rwa [hq'] at h
  rw [hkeep, hissue, List.filter_filter]
  refine List.filter_congr fun f _ => ?_
  rw [Bool.not_or, Bool.and_comm]
  rfl

theorem filter_cancelsFor {p : SlotFrame → Bool} (h : ∀ t, p (.cancel t) = true) (rs : List Remnant) :
    (cancelsFor rs).filter p = cancelsFor rs := by
  refine List.filter_eq_self.mpr fun f hf => ?_
  obtain ⟨e, -, hfe⟩ := List.mem_filterMap.mp hf
  split at hfe
  · exact Option.some.inj hfe ▸ h e.1
  · cases hfe

theorem withdraws_cancel (s : State) (n : SlotIx) (is : List XtIx) (t : RelayTag) :
    s.withdraws n is (.cancel t) = false :=
  List.any_eq_false.mpr fun i _ => by simp

theorem answered_restartOne (s : State) (n : SlotIx) (i : XtIx) : s.Answered n [i] ((s.restartOne i).slot n) := by
  have hlist : [i].filterMap (s.leavesAt n) = (s.leavesAt n i).toList := by
    cases h : s.leavesAt n i <;> simp [h]
  unfold State.Answered
  rw [hlist]
  cases hw : s.worksAt n i with
  | false =>
    refine ⟨(s.slot n).sendQ, ?_, fun _ => ?_⟩
    · rw [slot_restartOne_of_not_worksAt hw, leavesAt_of_not_worksAt hw]
      simp [State.vacates, hw, State.orphansFor]
    · rw [leavesAt_of_not_worksAt hw]
      simp [State.withdraws, hw, cancelsFor]
  | true =>
    have hvacates : (fun j => !s.vacates n [i] j) = (· != i) := by
      funext j
      simp [State.vacates, hw, bne, Bool.beq_comm]
    have hwithdraws : (fun f => !(f == .issue (s.relayTag i) || f == .keep (s.relayTag i)))
        = fun f => !s.withdraws n [i] f := by
      funext f
      simp [State.withdraws, hw]
    obtain ⟨q, hq, hsendQ⟩ := exists_sendQ_close ((s.slot n).queueCancels (s.leavesAt n i).toList) i (s.relayTag i)
    refine ⟨q, ?_, fun hidle => ?_⟩
    · rw [slot_restartOne_of_worksAt hw, hq, hvacates]
      rfl
    · rw [hsendQ hidle, hwithdraws, SlotBlock.queueCancels, List.filter_append,
        filter_cancelsFor (by simp [withdraws_cancel])]

theorem any_cons_of_eq_on_tail {α : Type} {p q : α → Bool} {a : α} {l : List α} (h : ∀ b ∈ l, p b = q b) :
    (a :: l).any p = ([a].any p || l.any q) := by
  rw [List.any_cons, List.any_cons, List.any_nil, Bool.or_false]
  congr 1
  induction l with
  | nil => rfl
  | cons b l ih =>
    rw [List.any_cons, List.any_cons, h b List.mem_cons_self, ih fun c hc => h c (List.mem_cons_of_mem b hc)]

theorem cancelsFor_append (rs rs' : List Remnant) : cancelsFor (rs ++ rs') = cancelsFor rs ++ cancelsFor rs' :=
  List.filterMap_append

theorem answered_cons {s : State} {n : SlotIx} {i : XtIx} {is : List XtIx} {b : SlotBlock} (hi : i ∉ is)
    (h : (s.restartOne i).Answered n is b) : s.Answered n (i :: is) b := by
  have hentry := entry_restartOne_of_mem_tail s hi
  have hworks : ∀ j ∈ is, s.worksAt n j = (s.restartOne i).worksAt n j :=
    fun j hj => (worksAt_of_entry_eq (hentry j hj)).symm
  have hleaves : is.filterMap ((s.restartOne i).leavesAt n) = is.filterMap (s.leavesAt n) :=
    List.filterMap_congr fun j hj => leavesAt_of_entry_eq (hentry j hj)
  have hcons : (i :: is).filterMap (s.leavesAt n)
      = [i].filterMap (s.leavesAt n) ++ is.filterMap (s.leavesAt n) := List.filterMap_append (l := [i])
  have hnow : (s.restartOne i).orphansFor = s.orphansFor := by
    funext rs
    simp only [State.orphansFor, orphanNow_of_setting_eq (setting_of_ground_eq (ground_restartOne s i))]
  have hvacates (j : XtIx) : s.vacates n (i :: is) j = (s.vacates n [i] j || (s.restartOne i).vacates n is j) :=
    any_cons_of_eq_on_tail fun k hk => by rw [hworks k hk]
  have hwithdraws (f : SlotFrame) :
      s.withdraws n (i :: is) f = (s.withdraws n [i] f || (s.restartOne i).withdraws n is f) :=
    any_cons_of_eq_on_tail fun k hk => by rw [hworks k hk, State.relayTag, State.relayTag, hentry k hk]
  obtain ⟨q, hq, hsendQ⟩ := answered_restartOne s n i
  obtain ⟨q', hq', hsendQ'⟩ := h
  rw [hq] at hq' hsendQ'
  refine ⟨q', ?_, fun hidle => ?_⟩
  · rw [hq', hleaves, hcons, hnow]
    simp only [List.filter_filter, hvacates, State.orphansFor, List.map_append, List.append_assoc, Bool.not_or,
      Bool.and_comm]
  · rw [hsendQ' hidle, hsendQ hidle, hleaves, hcons, cancelsFor_append, List.filter_append,
      filter_cancelsFor (by simp [withdraws_cancel]), List.filter_filter, List.append_assoc]
    simp only [hwithdraws, Bool.not_or, Bool.and_comm]

theorem answered_restartList (s : State) (n : SlotIx) {is : List XtIx} (hnodup : is.Nodup) :
    s.Answered n is ((s.restartList is).slot n) := by
  induction is generalizing s with
  | nil =>
    exact ⟨(s.slot n).sendQ, by simp [State.restartList, State.vacates, State.orphansFor],
      fun _ => by simp [State.withdraws, cancelsFor]⟩
  | cons i is ih =>
    obtain ⟨hi, hrest⟩ := List.nodup_cons.mp hnodup
    exact answered_cons hi (ih (s.restartOne i) hrest)

/-! ## Every entry -/

theorem worksAt_of_mem_queue {s : State} (hq : s.queuesOk) {n : SlotIx} {j : XtIx} (hj : j ∈ (s.slot n).queue) :
    s.worksAt n j = true := by
  obtain ⟨-, hmem⟩ := hq n
  have hqueued := (hmem j).mp hj
  rcases exchange_eq_none_or_some s j with hx | ⟨⟨id, phase⟩, hx⟩
  · simp [State.exchangeIs, hx] at hqueued
  · cases phase with
    | queued c => simpa [State.worksAt, State.exchangeIs, hx, Exchange.isQueued, Exchange.isEnded] using hqueued
    | _ => simp [State.exchangeIs, hx, Exchange.isQueued] at hqueued

/-- No QUEUED exchange is left where all live entries are answered (R41). -/
theorem filter_queue_vacates {s : State} (hq : s.queuesOk) (n : SlotIx) :
    ((s.slot n).queue.filter fun j => !s.vacates n s.admissionOrder j) = [] := by
  obtain ⟨hsub, -⟩ := hq n
  refine List.filter_eq_nil_iff.mpr fun j hj => ?_
  have hvacates : s.vacates n s.admissionOrder j = true :=
    List.any_eq_true.mpr ⟨j, hsub.mem hj, by rw [worksAt_of_mem_queue hq hj, beq_self_eq_true, Bool.and_self]⟩
  rw [hvacates]
  exact Bool.false_ne_true

/-- The admission order holds every exchange that works (R14). -/
theorem withdraws_admissionOrder {s : State} (ha : s.admissionOk) (n : SlotIx) (f : SlotFrame) :
    s.withdraws n s.admissionOrder f = s.withdraws n (List.finRange 64) f := by
  refine Bool.eq_iff_iff.mpr (List.any_eq_true.trans (Iff.trans ?_ List.any_eq_true.symm))
  refine exists_congr fun i => and_congr_left fun h => iff_of_true ?_ (List.mem_finRange i)
  obtain ⟨x, hx, -, -⟩ := worksAt_iff.mp (Bool.and_eq_true_iff.mp h).1
  exact mem_admissionOrder_of_exchange ha hx

theorem abandoned_all (s : State) (n : SlotIx) :
    s.abandoned n (fun _ => true) = s.admissionOrder.filterMap (s.leavesAt n) := by
  refine List.filterMap_congr fun i _ => ?_
  rcases exchange_eq_none_or_some s i with hx | ⟨x, hx⟩ <;> simp [State.leavesAt, Exchange.remnant, hx]

/-! ## The Order Lists are emptied -/

/-- The Order Lists of several links are emptied. -/
def State.emptyOrders (s : State) (ls : List CtrlIx) : State :=
  ls.foldl (fun s l => s.onCtrl l fun b => { b with orderList := [] }) s

theorem ctrl_emptyOrders (s : State) (ls : List CtrlIx) (l : CtrlIx) :
    (s.emptyOrders ls).ctrl l = if l ∈ ls then { s.ctrl l with orderList := [] } else s.ctrl l := by
  induction ls generalizing s with
  | nil => rfl
  | cons m ls ih =>
    refine (ih (s.onCtrl m fun b => { b with orderList := [] })).trans ?_
    by_cases hm : m = l
    · subst hm
      simp
    · simp [hm, Ne.symm hm]

theorem ground_emptyOrders (s : State) (ls : List CtrlIx) : (s.emptyOrders ls).ground = s.ground :=
  foldl_keeps _ State.ground (fun u l => ground_onCtrl u l _) ls s

theorem stores_emptyOrders (s : State) (ls : List CtrlIx) : (s.emptyOrders ls).stores = s.stores :=
  foldl_keeps _ State.stores (fun u l => stores_onCtrl u l _) ls s

theorem slot_emptyOrders (s : State) (ls : List CtrlIx) (n : SlotIx) : (s.emptyOrders ls).slot n = s.slot n :=
  foldl_keeps _ (·.slot n) (fun u l => slot_onCtrl u l _ n) ls s

/-! ## The reservation records are cleared (R123) -/

/-- A link without its notices. -/
def CtrlBlock.unnoticed (b : CtrlBlock) : CtrlBlock := { b with noticeQ := [], lost := false }

/-- What notices and the clearing of a record leave alone: entries and pools, clock and tables, the admission order,
and of the links all but their notices. -/
def State.besideNotices (s : State) :
    (Vector Entry 64 × Nat × Nat × Vector Nat 4) × (Nat × List Instr × (Bank × Bank × BitVec 16 × BitVec 32 × CtrlIx))
      × List XtIx × (CtrlIx → CtrlBlock) :=
  (s.stores, s.setting, s.admissionOrder, fun l => (s.ctrl l).unnoticed)

theorem stores_of_besideNotices_eq {s t : State} (h : t.besideNotices = s.besideNotices) : t.stores = s.stores :=
  congrArg Prod.fst h

theorem setting_of_besideNotices_eq {s t : State} (h : t.besideNotices = s.besideNotices) : t.setting = s.setting :=
  congrArg (fun e => e.2.1) h

theorem admissionOrder_of_besideNotices_eq {s t : State} (h : t.besideNotices = s.besideNotices) :
    t.admissionOrder = s.admissionOrder :=
  congrArg (fun e => e.2.2.1) h

theorem unnoticed_of_besideNotices_eq {s t : State} (h : t.besideNotices = s.besideNotices) (l : CtrlIx) :
    (t.ctrl l).unnoticed = (s.ctrl l).unnoticed :=
  congrFun (congrArg (fun e => e.2.2.2) h) l

theorem exists_notices_of_unnoticed_eq {b b' : CtrlBlock} (h : b'.unnoticed = b.unnoticed) :
    ∃ q f, b' = { b with noticeQ := q, lost := f } := by
  cases b'
  cases h
  exact ⟨_, _, rfl⟩

theorem unnoticed_addNotice (b : CtrlBlock) (m : Notice) : (b.addNotice m).unnoticed = b.unnoticed := by
  unfold CtrlBlock.addNotice
  split <;> rfl

theorem besideNotices_notify (s : State) (l : CtrlIx) (k : NoticeKind) (a : Byte) (c : NoticeCause) (d : List Byte) :
    (s.notify l k a c d).besideNotices = s.besideNotices := by
  refine Prod.ext rfl (Prod.ext rfl (Prod.ext rfl (funext fun m => ?_)))
  simp only [State.besideNotices]
  rw [ctrl_notify]
  split
  next h => rw [unnoticed_addNotice, h]
  next => rfl

theorem besideNotices_clearReservation (s : State) (n : SlotIx) (cause : NoticeCause) :
    (s.clearReservation n cause).besideNotices = s.besideNotices := by
  have hholder : (s.tellHolder n cause).besideNotices = s.besideNotices := by
    unfold State.tellHolder
    split
    · exact besideNotices_notify ..
    · rfl
  exact (foldl_keeps _ State.besideNotices (fun u l => besideNotices_notify u l _ _ _ _) _ _).trans hholder

/-- The records of several slots are cleared, one after another. -/
def State.clearAll (s : State) (ns : List SlotIx) : State := ns.foldl (fun s n => s.clearReservation n .restart) s

theorem clearAll_cons (s : State) (n : SlotIx) (ns : List SlotIx) :
    s.clearAll (n :: ns) = (s.clearReservation n .restart).clearAll ns := rfl

theorem besideNotices_clearAll (s : State) (ns : List SlotIx) : (s.clearAll ns).besideNotices = s.besideNotices :=
  foldl_keeps _ State.besideNotices (fun u n => besideNotices_clearReservation u n .restart) ns s

theorem slot_clearAll (s : State) (ns : List SlotIx) (m : SlotIx) :
    (s.clearAll ns).slot m = if m ∈ ns then { s.slot m with resv := Reservation.empty } else s.slot m := by
  induction ns generalizing s with
  | nil => rfl
  | cons n ns ih =>
    rw [clearAll_cons, ih, slot_clearReservation]
    by_cases hn : n = m
    · subst hn
      simp
    · simp [hn, Ne.symm hn]

/-- How many links a slot's record names, and so how many notices its clearing generates (R123). -/
def Reservation.named (r : Reservation) : Nat := r.holder.toList.length + r.waiting.length

theorem noticeId_clearAll (s : State) {ns : List SlotIx} (hnodup : ns.Nodup) : (s.clearAll ns).noticeId
    = s.noticeId + BitVec.ofNat 8 (ns.map fun n => (s.slot n).resv.named).sum := by
  induction ns generalizing s with
  | nil => exact (BitVec.add_zero _).symm
  | cons n ns ih =>
    obtain ⟨hn, hrest⟩ := List.nodup_cons.mp hnodup
    have hsame : (ns.map fun m => ((s.clearReservation n .restart).slot m).resv.named)
        = ns.map fun m => (s.slot m).resv.named :=
      List.map_congr_left fun m hm => by rw [slot_clearReservation, if_neg (ne_of_mem_of_not_mem hm hn).symm]
    rw [clearAll_cons, ih _ hrest, noticeId_clearReservation, hsame, List.map_cons, List.sum_cons, BitVec.add_assoc,
      ← BitVec.ofNat_add]
    rfl

/-! ## All effects before the REPLY -/

theorem admissionOrder_of_ground_eq {s t : State} (h : t.ground = s.ground) : t.admissionOrder = s.admissionOrder :=
  congrArg (fun e => e.2.2.1) h

theorem noticeId_of_ground_eq {s t : State} (h : t.ground = s.ground) : t.noticeId = s.noticeId :=
  congrArg (fun e => e.2.2.2.2.1) h

theorem restartAll_eq (s : State) : s.restartAll
    = ((s.restartList s.admissionOrder).emptyOrders (List.finRange 4)).clearAll (List.finRange 8) := rfl

section RestartAll

variable (s : State)

/-- Beside notices a restart is the answers to the entries and the emptying of the Order Lists. -/
theorem besideNotices_restartAll : s.restartAll.besideNotices
    = ((s.restartList s.admissionOrder).emptyOrders (List.finRange 4)).besideNotices :=
  besideNotices_clearAll ..

theorem stores_restartAll : s.restartAll.stores = (s.restartList s.admissionOrder).stores :=
  (stores_of_besideNotices_eq (besideNotices_restartAll s)).trans (stores_emptyOrders ..)

theorem setting_restartAll : s.restartAll.setting = s.setting :=
  (setting_of_besideNotices_eq (besideNotices_restartAll s)).trans
    (setting_of_ground_eq ((ground_emptyOrders ..).trans (ground_restartList ..)))

theorem admissionOrder_restartAll : s.restartAll.admissionOrder = s.admissionOrder :=
  (admissionOrder_of_besideNotices_eq (besideNotices_restartAll s)).trans
    (admissionOrder_of_ground_eq ((ground_emptyOrders ..).trans (ground_restartList ..)))

theorem blocks_restartAll : s.restartAll.blocks = s.blocks :=
  (blocks_of_stores_eq (stores_restartAll s)).trans (blocks_restartList ..)

variable {s}

/-- Every live exchange is RELEASED; a FREE entry stays, and so do the generations (R87, R107). -/
theorem entry_restartAll (ha : s.admissionOk) (i : XtIx) :
    s.restartAll.entry i = { s.entry i with live := (s.exchange i).map Exchange.restarted } := by
  rw [entry_of_stores_eq (stores_restartAll s)]
  by_cases hi : i ∈ s.admissionOrder
  · exact entry_restartList_of_mem s ha.1 hi
  · have hfree : s.exchange i = none := by
      rcases exchange_eq_none_or_some s i with hx | ⟨x, hx⟩
      · exact hx
      · exact absurd (mem_admissionOrder_of_exchange ha hx) hi
    rw [entry_restartList_of_not_mem s hi, hfree, Option.map_none, ← hfree]
    rfl

/-- Every slot has answered its exchanges, and its reservation record is empty. -/
theorem slot_restartAll (ha : s.admissionOk) (n : SlotIx) : ∃ b, s.Answered n s.admissionOrder b
    ∧ s.restartAll.slot n = { b with resv := Reservation.empty } := by
  refine ⟨_, answered_restartList s n ha.1, ?_⟩
  rw [restartAll_eq, slot_clearAll, if_pos (List.mem_finRange n), slot_emptyOrders]

/-- Every link has its Order List empty and its released entries in its Release Queue (R83, R87). -/
theorem ctrl_restartAll (ha : s.admissionOk) (l : CtrlIx) : ∃ q f, s.restartAll.ctrl l = { s.ctrl l with
    orderList := []
    releaseQ := (s.ctrl l).releaseQ ++ s.admissionOrder.filter (s.awaitsRelease l)
    noticeQ := q
    lost := f } := by
  obtain ⟨q, f, h⟩ := exists_notices_of_unnoticed_eq
    (unnoticed_of_besideNotices_eq (besideNotices_restartAll s) l)
  rw [ctrl_emptyOrders, if_pos (List.mem_finRange l), ctrl_restartList s ha.1] at h
  exact ⟨q, f, h⟩

theorem resv_of_answered {n : SlotIx} {is : List XtIx} {b : SlotBlock} (h : s.Answered n is b) :
    b.resv = (s.slot n).resv := by
  obtain ⟨q, rfl, -⟩ := h
  rfl

/-- One notice for each link that a record names (R123, R161). -/
theorem noticeId_restartAll (ha : s.admissionOk) : s.restartAll.noticeId
    = s.noticeId + BitVec.ofNat 8 ((List.finRange 8).map fun n => (s.slot n).resv.named).sum := by
  have hresv (n : SlotIx) : ((s.restartList s.admissionOrder).slot n).resv = (s.slot n).resv :=
    resv_of_answered (answered_restartList s n ha.1)
  rw [restartAll_eq, noticeId_clearAll _ (List.nodup_finRange 8), noticeId_of_ground_eq (ground_emptyOrders ..),
    noticeId_of_ground_eq (ground_restartList ..)]
  simp only [slot_emptyOrders, hresv]

end RestartAll

/-! ## Taking the request (R97, R155, R159) -/

theorem execRelayRestart_of_manager {s : State} {l : CtrlIx} {tag : Byte} (h : s.takes l (.mgmt tag 0x0C []))
    (hm : s.isManager l = true) :
    execRelayRestart l s = .next ((s.tookFrame l).arise (.restart l tag)).settle := by
  rw [execRelayRestart, mgmtRequest_of_takes h (wanted := (· == relayRestartCode)) (beq_self_eq_true _),
    privileged_tookFrame hm, noArgs_nil]

theorem tables_of_setting_eq {s t : State} (h : t.setting = s.setting) : t.tables = s.tables :=
  congrArg (fun e => e.2.2) h

theorem takeWaiting_restart {s : State} {l : CtrlIx} (hm : s.isManager l = true) (tag : Byte) :
    s.takeWaiting (.restart l tag) = s.restartAll.answer l tag .ok [] := if_pos hm

section Answer

variable (s : State) (l : CtrlIx) (tag : Byte) (r : ReplyResult) (d : List Byte)

theorem entry_answer (i : XtIx) : (s.answer l tag r d).entry i = s.entry i := rfl
theorem slot_answer (n : SlotIx) : (s.answer l tag r d).slot n = s.slot n := rfl
theorem setting_answer : (s.answer l tag r d).setting = s.setting := rfl
theorem noticeId_answer : (s.answer l tag r d).noticeId = s.noticeId := rfl
theorem admissionOrder_answer : (s.answer l tag r d).admissionOrder = s.admissionOrder := rfl

theorem ctrl_answer (k : CtrlIx) :
    (s.answer l tag r d).ctrl k = { s.ctrl k with
      replyQ := if k = l then (s.ctrl l).replyQ ++ [.reply tag .mgmt r d] else (s.ctrl k).replyQ } := by
  rw [State.answer, State.queueReply, ctrl_onCtrl]
  by_cases hk : l = k
  · subst hk
    simp
  · simp [hk, Ne.symm hk]

end Answer

/-- Settles O37: the request is taken or waits, and its effects on the entries, the slots and the links are those of
the entries in admission order, of the emptied Order Lists and of the cleared records. -/
theorem relayRestartAnswersEveryExchange : Obligations.RelayRestartAnswersEveryExchange := by
  refine ⟨fun l tag s h hm => ?request, ?effects⟩
  case request =>
    rw [exec_relayRestart, execRelayRestart_of_manager h hm]
    refine ⟨fun ht => ?_, fun ht => ?_⟩
    · rw [arise_of_mustWait (s := s.tookFrame l) (w := .restart l tag) ht, waiting_tookFrame]
    · rw [arise_of_not_mustWait (s := s.tookFrame l) (w := .restart l tag) ht]
  intro l tag s hm hc t
  obtain ⟨ha, hqueues, -⟩ := hc
  have ht : t = s.restartAll.answer l tag .ok [] := takeWaiting_restart hm tag
  clear_value t
  have hentry (i : XtIx) : t.entry i = { s.entry i with live := (s.exchange i).map Exchange.restarted } := by
    rw [ht, entry_answer, entry_restartAll ha]
  have hsetting : t.setting = s.setting := by
    rw [ht, setting_answer, setting_restartAll]
  refine ⟨fun i x hx => ?exchange, fun i hx => ?free, fun i => by rw [hentry], fun n => ?slot, fun l' => ?link,
    ?totals, ?notices, tables_of_setting_eq hsetting, now_of_setting_eq hsetting, ?order⟩
  case exchange =>
    refine ⟨x.restartResponse, by rw [State.exchange, hentry, hx]; rfl, restartResponse_of_unended,
      fun r hr => restartResponse_of_ended hr⟩
  case free => rw [State.exchange, hentry, hx]; rfl
  case slot =>
    obtain ⟨b, ⟨q, rfl, hsend⟩, hslot⟩ := slot_restartAll ha n
    rw [ht, slot_answer, hslot]
    refine ⟨filter_queue_vacates hqueues n, rfl, rfl, rfl, rfl, ?_, fun hidle => ?_⟩
    · rw [State.orphansMade, abandoned_all]
      rfl
    · rw [State.cancelsMade, abandoned_all]
      refine (hsend hidle).trans ?_
      simp only [withdraws_admissionOrder ha]
      rfl
  case link =>
    have hreply : (s.restartAll.ctrl l).replyQ = (s.ctrl l).replyQ := by
      obtain ⟨q, f, hctrl⟩ := ctrl_restartAll ha l
      rw [hctrl]
    obtain ⟨q, f, hctrl⟩ := ctrl_restartAll ha l'
    rw [ht, ctrl_answer, hctrl, hreply]
    exact ⟨rfl, rfl, rfl, rfl, rfl⟩
  case totals =>
    refine sameTotals_of_blocks_eq ?_
    rw [ht, blocks_of_stores_eq (stores_answer ..), blocks_restartAll]
  case notices =>
    rw [ht, noticeId_answer, noticeId_restartAll ha]
    rfl
  case order =>
    rw [ht, admissionOrder_answer, admissionOrder_restartAll]

end Sys2Proof.Machine
end

section
/-! PROOFS. Every step keeps each link within its bounds (Section 11, R167, R168, R170, R172) and each Notice Queue
within its places (R162): what the writes of a link do to its bounds, and which operations leave the links alone. -/

namespace Sys2Proof.Machine

open Sys2Proof

/-! ## The bounds of one link (R167, R168, R170) -/

/-- The link keeps its bounds; `LinkBlock.inBounds` says the same as a test. -/
structure LinkBlock.Within (places : Nat) (b : LinkBlock) : Prop where
  buffer : b.buffer.length ≤ places
  held : b.held ≤ b.announced
  timer : b.lineTimer ≠ none → b.locked = false ∧ b.state ≠ .down
  quiet : b.state ≠ .up → b.buffer = [] ∧ b.held = 0 ∧ b.owed = 0 ∧ b.sending = none

theorem inBounds_iff {places : Nat} {b : LinkBlock} : b.inBounds places = true ↔ b.Within places := by
  have hparts : b.inBounds places = true ↔ ((b.buffer.length ≤ places ∧ b.held ≤ b.announced)
      ∧ (b.lineTimer = none ∨ b.locked = false ∧ b.state ≠ .down))
      ∧ (b.state = .up ∨ ((b.buffer = [] ∧ b.held = 0) ∧ b.owed = 0) ∧ b.sending = none) := by
    simp [LinkBlock.inBounds]
  rw [hparts]
  constructor
  · rintro ⟨⟨⟨hbuffer, hheld⟩, htimer⟩, hquiet⟩
    refine ⟨hbuffer, hheld, htimer.resolve_left, fun hup => ?_⟩
    obtain ⟨⟨⟨hempty, hzero⟩, howed⟩, hsending⟩ := hquiet.resolve_left hup
    exact ⟨hempty, hzero, howed, hsending⟩
  · rintro ⟨hbuffer, hheld, htimer, hquiet⟩
    refine ⟨⟨⟨hbuffer, hheld⟩, or_iff_not_imp_left.mpr htimer⟩, or_iff_not_imp_left.mpr fun hup => ?_⟩
    obtain ⟨hempty, hzero, howed, hsending⟩ := hquiet hup
    exact ⟨⟨⟨hempty, hzero⟩, howed⟩, hsending⟩

section Within

variable {places : Nat} {b : LinkBlock} (h : b.Within places)

include h

theorem within_stopStall : ({ b with stall := none } : LinkBlock).Within places :=
  ⟨h.buffer, h.held, h.timer, h.quiet⟩

theorem within_stopLineTimer : ({ b with lineTimer := none } : LinkBlock).Within places :=
  ⟨h.buffer, h.held, fun hn => absurd rfl hn, h.quiet⟩

/-- A link that is not in UP holds nothing that DOWN does not allow (R167). -/
theorem within_goDown (hstate : b.state ≠ .up) (htimer : b.lineTimer = none) :
    ({ b with state := .down } : LinkBlock).Within places :=
  ⟨h.buffer, h.held, fun hn => absurd htimer hn, fun _ => h.quiet hstate⟩

theorem within_lock (p : Nat) : (b.lock p).Within places := by
  unfold LinkBlock.lock
  dsimp only
  split
  next hdown =>
    exact ⟨h.buffer, h.held, fun hn => absurd rfl hn, fun _ => h.quiet fun hup => absurd (hdown.symm.trans hup) nofun⟩
  next => exact ⟨h.buffer, h.held, fun hn => absurd rfl hn, h.quiet⟩

theorem within_unlock (now : Nat) : (b.unlock now).Within places := by
  refine ⟨h.buffer, h.held, fun hn => ⟨rfl, fun hdown => hn ?_⟩, h.quiet⟩
  exact if_pos hdown

theorem within_toUp (size : Nat) : (b.toUp size).Within places :=
  ⟨h.buffer, le_rfl, fun hn => ⟨(h.timer hn).1, LinkState.noConfusion⟩, fun hup => absurd rfl hup⟩

/-- Reading the line afresh starts the line-loss timer of an unlocked line only (R168). -/
theorem within_readLine (hstate : b.state ≠ .down) (now : Nat) : (b.readLine now).Within places := by
  unfold LinkBlock.readLine
  split
  next => exact h
  next hunlocked => exact ⟨h.buffer, h.held, fun _ => ⟨by simpa using hunlocked, hstate⟩, h.quiet⟩

theorem within_leaveUp : b.leaveUp.Within places :=
  ⟨Nat.zero_le _, Nat.zero_le _, h.timer, fun _ => ⟨rfl, rfl, rfl, rfl⟩⟩

/-- From any state within its bounds a link may leave UP; where the departure leads is within them (R168). -/
theorem within_depart (p now : Nat) (cause : DepartCause) : (b.depart p now cause).Within places := by
  have hwait : (b.leaveUp.toWaitHello p).Within places :=
    ⟨Nat.zero_le _, Nat.zero_le _, fun hn => ⟨(h.timer hn).1, LinkState.noConfusion⟩, fun _ => ⟨rfl, rfl, rfl, rfl⟩⟩
  have hback (size : Nat) : ((b.leaveUp.sendHello p).toUp size).Within places :=
    ⟨Nat.zero_le _, le_rfl, fun hn => ⟨(h.timer hn).1, LinkState.noConfusion⟩, fun hup => absurd rfl hup⟩
  cases cause with
  | lineLost =>
    unfold LinkBlock.depart
    dsimp only
    split <;> exact ⟨Nat.zero_le _, Nat.zero_le _, fun hn => absurd rfl hn, fun _ => ⟨rfl, rfl, rfl, rfl⟩⟩
  | creditViolation | creditStall => exact within_readLine hwait LinkState.noConfusion now
  | partnerRestart size => exact within_readLine (hback size) LinkState.noConfusion now

theorem within_endSend : b.endSend.Within places :=
  ⟨h.buffer, h.held, h.timer, fun hup => by
    obtain ⟨hempty, hzero, howed, -⟩ := h.quiet hup
    exact ⟨hempty, hzero, howed, rfl⟩⟩

theorem within_settle (now : Nat) (cond : Bool) : (b.settle now cond).Within places := by
  unfold LinkBlock.settle
  split <;> exact ⟨h.buffer, h.held, h.timer, h.quiet⟩

variable (hup : b.state = .up)

include hup

/-- A frame that begins to leave uses a credit (R170). -/
theorem within_begin (what : Sending) (bytes : List Byte) : (b.begin what bytes).Within places :=
  ⟨h.buffer, (Nat.sub_le _ _).trans h.held, h.timer, fun hn => absurd hup hn⟩

/-- A frame that is taken frees its place (R173, R174). -/
theorem within_takeHead : b.takeHead.Within places := by
  refine ⟨?_, h.held, h.timer, fun hn => absurd hup hn⟩
  rw [LinkBlock.takeHead, List.length_tail]
  exact (Nat.sub_le _ _).trans h.buffer

/-- A frame that arrives takes a free place at most, and a credit return adds credits up to the announced size
(R169, R170). -/
theorem within_receive (hroom : b.buffer.length < places) (a : Arrival) : (b.receive a).Within places := by
  cases a with
  | corrupt => exact ⟨h.buffer, h.held, h.timer, fun hn => absurd hup hn⟩
  | discarded count | credit count => exact ⟨h.buffer, Nat.min_le_right _ _, h.timer, fun hn => absurd hup hn⟩
  | kept count f =>
    refine ⟨?_, Nat.min_le_right _ _, h.timer, fun hn => absurd hup hn⟩
    rw [LinkBlock.receive, List.length_append]
    exact hroom

end Within

/-! ## The links and the Notice Queues of a state -/

/-- What the bounds read of a Controller Link: the link, and whether its Notice Queue is within its places. A notice
that finds no place is lost (R162), so that no operation but the sending of a notice and a departure changes it. -/
def CtrlBlock.line (b : CtrlBlock) : LinkBlock × Bool := (b.link, decide (b.noticeQ.length ≤ 16))

/-- What the bounds read of a state. -/
def State.lines (s : State) : (CtrlIx → LinkBlock × Bool) × (SlotIx → LinkBlock) :=
  (fun l => (s.ctrl l).line, fun n => (s.slot n).link)

/-- A Controller Link within its bounds, with a Notice Queue within its places (R162). -/
structure CtrlBlock.Within (b : CtrlBlock) : Prop where
  link : b.link.Within 8
  notices : b.noticeQ.length ≤ 16

theorem within_onLink {b : CtrlBlock} (h : b.Within) {f : LinkBlock → LinkBlock} (hf : (f b.link).Within 8) :
    (b.onLink f).Within := ⟨hf, h.notices⟩

/-- `State.linksOk` without the condition of the stall timers, which the end of an event restores. -/
structure State.Bounded (s : State) : Prop where
  ctrl : ∀ l, (s.ctrl l).Within
  slot : ∀ n, (s.slot n).link.Within 4

theorem bounded_of_linksOk {s : State} (h : s.linksOk) : s.Bounded := by
  obtain ⟨hctrl, hslot⟩ := h
  refine ⟨fun l => ?_, fun n => ?_⟩
  · obtain ⟨hlink, hnotices, -⟩ := hctrl l
    exact ⟨inBounds_iff.mp hlink, hnotices⟩
  · obtain ⟨hlink, -⟩ := hslot n
    exact inBounds_iff.mp hlink

theorem within_of_line_eq {b b' : CtrlBlock} (h : b.Within) (heq : b'.line = b.line) : b'.Within := by
  obtain ⟨hlink, hnotices⟩ := Prod.ext_iff.mp heq
  have hlink : b'.link = b.link := hlink
  exact ⟨hlink ▸ h.link, (decide_eq_decide.mp hnotices).mpr h.notices⟩

theorem bounded_of_lines_eq {s t : State} (h : s.Bounded) (heq : t.lines = s.lines) : t.Bounded := by
  obtain ⟨hctrl, hslot⟩ := Prod.ext_iff.mp heq
  have hslot (n : SlotIx) : (t.slot n).link = (s.slot n).link := congrFun hslot n
  exact ⟨fun l => within_of_line_eq (h.ctrl l) (congrFun hctrl l), fun n => hslot n ▸ h.slot n⟩

theorem bounded_onCtrl {s : State} (h : s.Bounded) {l : CtrlIx} {f : CtrlBlock → CtrlBlock}
    (hf : (s.ctrl l).Within → (f (s.ctrl l)).Within) : (s.onCtrl l f).Bounded := by
  refine ⟨fun m => ?_, h.slot⟩
  rw [ctrl_onCtrl]
  split
  · exact hf (h.ctrl l)
  · exact h.ctrl m

theorem bounded_onSlot {s : State} (h : s.Bounded) {n : SlotIx} {f : SlotBlock → SlotBlock}
    (hf : (s.slot n).link.Within 4 → (f (s.slot n)).link.Within 4) : (s.onSlot n f).Bounded := by
  refine ⟨h.ctrl, fun m => ?_⟩
  rw [slot_onSlot]
  split
  · exact hf (h.slot n)
  · exact h.slot m

theorem bounded_onLink {s : State} (h : s.Bounded) {k : LinkId} {f : LinkBlock → LinkBlock}
    (hf : (s.link k).Within (bufferPlaces k) → (f (s.link k)).Within (bufferPlaces k)) : (s.onLink k f).Bounded := by
  cases k with
  | ctrl l => exact bounded_onCtrl h (f := (·.onLink f)) fun hb => within_onLink hb (hf hb.link)
  | slot n => exact bounded_onSlot h (f := (·.onLink f)) hf

/-! ## The end of an event (R172) -/

theorem isSome_stall_settle (b : LinkBlock) (now : Nat) (cond : Bool) : (b.settle now cond).stall.isSome = cond := by
  cases cond <;> rfl

theorem stalls_settle (b : LinkBlock) (now : Nat) (cond w d : Bool) :
    (b.settle now cond).stalls w d = b.stalls w d := by
  cases cond <;> rfl

theorem frameWaits_ctrl_settle (b : CtrlBlock) (now : Nat) (cond : Bool) :
    (b.onLink (·.settle now cond)).frameWaits = b.frameWaits := by
  cases cond <;> rfl

theorem frameWaits_slot_settle (b : SlotBlock) (now : Nat) (cond : Bool) :
    (b.onLink (·.settle now cond)).frameWaits = b.frameWaits := by
  cases cond <;> rfl

/-- The end of an event puts the stall timers under their condition. -/
theorem linksOk_settle {s : State} (h : s.Bounded) : s.settle.linksOk := by
  refine ⟨fun l => ?_, fun n => ?_⟩
  · rw [ctrl_settle, frameWaits_ctrl_settle]
    refine ⟨inBounds_iff.mpr (within_settle (h.ctrl l).link _ _), (h.ctrl l).notices, ?_⟩
    exact (isSome_stall_settle ..).trans (stalls_settle ..).symm
  · rw [slot_settle, frameWaits_slot_settle]
    refine ⟨inBounds_iff.mpr (within_settle (h.slot n) _ _), ?_⟩
    exact (isSome_stall_settle ..).trans (stalls_settle ..).symm

/-! ## Writes beside the links -/

theorem lines_of_ctrl_eq {s t : State} (hc : ∀ l, t.ctrl l = s.ctrl l) (ht : t.transits = s.transits) :
    t.lines = s.lines := by
  have hslots : (fun n => (t.slot n).link) = fun n => (s.slot n).link := congrArg Prod.snd ht
  exact Prod.ext (funext fun l => congrArg CtrlBlock.line (hc l)) hslots

theorem lines_of_unlisted_eq {s t : State} (hc : ∀ l, (t.ctrl l).unlisted = (s.ctrl l).unlisted)
    (ht : t.transits = s.transits) : t.lines = s.lines := by
  have hslots : (fun n => (t.slot n).link) = fun n => (s.slot n).link := congrArg Prod.snd ht
  have hctrls (l : CtrlIx) : (t.ctrl l).unlisted.line = (s.ctrl l).unlisted.line := congrArg CtrlBlock.line (hc l)
  exact Prod.ext (funext hctrls) hslots

theorem lines_onCtrl {s : State} {l : CtrlIx} {f : CtrlBlock → CtrlBlock}
    (h : (f (s.ctrl l)).line = (s.ctrl l).line) : (s.onCtrl l f).lines = s.lines := by
  refine Prod.ext (funext fun m => ?_) rfl
  simp only [State.lines, ctrl_onCtrl]
  split
  next hm => rw [h, hm]
  next => rfl

theorem lines_onSlot {s : State} {n : SlotIx} {f : SlotBlock → SlotBlock}
    (h : (f (s.slot n)).link = (s.slot n).link) : (s.onSlot n f).lines = s.lines :=
  lines_of_ctrl_eq (fun _ => rfl) (transits_onSlot h)

@[simp] theorem lines_setEntry (s : State) (i : XtIx) (e : Entry) : (s.setEntry i e).lines = s.lines := rfl
@[simp] theorem lines_atTime (s : State) (t : Nat) : (s.atTime t).lines = s.lines := rfl
@[simp] theorem lines_withWaiting (s : State) (ws : List WaitingCause) : (s.withWaiting ws).lines = s.lines := rfl
@[simp] theorem lines_queueReply (s : State) (l : CtrlIx) (r : ReplyItem) : (s.queueReply l r).lines = s.lines :=
  lines_onCtrl rfl
@[simp] theorem lines_answer (s : State) (l : CtrlIx) (tag : Byte) (r : ReplyResult) (d : List Byte) :
    (s.answer l tag r d).lines = s.lines := lines_queueReply ..
@[simp] theorem lines_answerResv (s : State) (l : CtrlIx) (tag : Byte) (r : ReplyResult) (d : List Byte) :
    (s.answerResv l tag r d).lines = s.lines := lines_queueReply ..
@[simp] theorem lines_endOffer (s : State) (l : CtrlIx) : (s.endOffer l).lines = s.lines :=
  lines_onCtrl (s := s) (l := l) (f := fun b => { b with offered := none }) rfl
@[simp] theorem lines_onResv (s : State) (n : SlotIx) (f : Reservation → Reservation) :
    (s.onResv n f).lines = s.lines := lines_onSlot rfl
@[simp] theorem lines_startLease (s : State) (n : SlotIx) : (s.startLease n).lines = s.lines := lines_onResv ..
@[simp] theorem lines_makeHolder (s : State) (n : SlotIx) (l : CtrlIx) : (s.makeHolder n l).lines = s.lines :=
  (lines_startLease ..).trans (lines_onResv ..)
@[simp] theorem lines_setSlotState (s : State) (n : SlotIx) (st : SlotState) :
    (s.setSlotState n st).lines = s.lines := lines_onSlot rfl
@[simp] theorem lines_queueSend (s : State) (n : SlotIx) (f : SlotFrame) : (s.queueSend n f).lines = s.lines :=
  lines_onSlot rfl
@[simp] theorem lines_withdrawSend (s : State) (n : SlotIx) (f : SlotFrame) :
    (s.withdrawSend n f).lines = s.lines := lines_onSlot (link_withdraw ..)
@[simp] theorem lines_leaveSlotQueue (s : State) (n : SlotIx) (i : XtIx) :
    (s.leaveSlotQueue n i).lines = s.lines := lines_onSlot rfl
@[simp] theorem lines_removeOrphan (s : State) (n : SlotIx) (t : RelayTag) : (s.removeOrphan n t).lines = s.lines :=
  (lines_withdrawSend ..).trans (lines_onSlot rfl)

/-! ## Notices (R162) -/

/-- A notice joins a queue with a free place; one that finds none is lost. -/
theorem line_addNotice (b : CtrlBlock) (m : Notice) : (b.addNotice m).line = b.line := by
  unfold CtrlBlock.addNotice
  split
  next hroom =>
    have hroom : b.noticeQ.length < 16 := hroom
    simp only [CtrlBlock.line, List.length_append, List.length_singleton, Prod.mk.injEq, true_and]
    exact decide_eq_decide.mpr (by omega)
  next => rfl

@[simp] theorem lines_notify (s : State) (l : CtrlIx) (k : NoticeKind) (a : Byte) (c : NoticeCause) (d : List Byte) :
    (s.notify l k a c d).lines = s.lines :=
  lines_onCtrl (s := s) (l := l) (f := (·.addNotice ⟨s.noticeId, k, a, c, d⟩)) (line_addNotice ..)

@[simp] theorem lines_notifyManager (s : State) (k : NoticeKind) (a : Byte) (c : NoticeCause) (d : List Byte) :
    (s.notifyManager k a c d).lines = s.lines := by
  unfold State.notifyManager
  split
  · exact lines_notify ..
  · rfl

/-! ## Exchanges -/

@[simp] theorem lines_setPhase (s : State) (i : XtIx) (p : Phase) : (s.setPhase i p).lines = s.lines :=
  lines_of_ctrl_eq (ctrl_setPhase s i p) (transits_setPhase ..)
@[simp] theorem lines_returnCmd (s : State) (c : Option CmdSpace) : (s.returnCmd c).lines = s.lines :=
  lines_of_ctrl_eq (ctrl_returnCmd s c) (transits_returnCmd ..)
@[simp] theorem lines_release (s : State) (l : CtrlIx) (i : XtIx) (r : Response) : (s.release l i r).lines = s.lines :=
  (lines_onCtrl rfl).trans (lines_setPhase ..)
@[simp] theorem lines_closeSlotSide (s : State) (i : XtIx) (x : Exchange) (kept : Nat) (o : Option Position) :
    (s.closeSlotSide i x kept o).lines = s.lines :=
  lines_of_ctrl_eq (ctrl_closeSlotSide s i x kept o) (transits_closeSlotSide ..)
@[simp] theorem lines_handToOrderUnit (s : State) (i : XtIx) (x : Exchange) (r : Response) :
    (s.handToOrderUnit i x r).lines = s.lines :=
  lines_of_unlisted_eq (unlisted_handToOrderUnit s i x r) (transits_handToOrderUnit ..)
@[simp] theorem lines_queueCancel (s : State) (t : RelayTag) (x : Exchange) : (s.queueCancel t x).lines = s.lines :=
  lines_of_ctrl_eq (ctrl_queueCancel s t x) (transits_queueCancel ..)
@[simp] theorem lines_takeResp (s : State) (l : CtrlIx) (p : Pool) (k : Nat) : (s.takeResp l p k).lines = s.lines := by
  cases p <;> rfl

/-- An ending moves exchanges between lists of entries only (R15). -/
@[simp] theorem lines_endExchange (s : State) (i : XtIx) (r : Response) (orphan : Bool) :
    (s.endExchange i r orphan).lines = s.lines := by
  unfold State.endExchange
  split
  · rfl
  · cases orphan <;> simp

@[simp] theorem lines_freeEntry (s : State) (i : XtIx) (x : Exchange) (o : Option Position) :
    (s.freeEntry i x o).lines = s.lines :=
  lines_of_unlisted_eq (fun l => by rw [ctrl_freeEntry]; split <;> rfl) (transits_freeEntry ..)

@[simp] theorem lines_endSlotWork (s : State) (n : SlotIx) (code : RelayCode) :
    (s.endSlotWork n code).lines = s.lines := by
  refine (lines_onSlot ?_).trans (foldl_keeps _ State.lines (fun u i => ?_) _ s)
  · rfl
  · exact endForSlot_keeps State.lines (fun v j _ c _ _ => lines_endExchange v j (.relay c) false) u code i

@[simp] theorem lines_preempt (s : State) (n : SlotIx) (l : CtrlIx) : (s.preempt n l).lines = s.lines :=
  lines_of_unlisted_eq (unlisted_preempt s n l) (transits_preempt ..)

@[simp] theorem lines_admitCmd (s : State) (l : CtrlIx) (c : CmdFrame) (n : SlotIx) (i : XtIx) :
    (s.admitCmd l c n i).lines = s.lines := by
  have hqueued := lines_onSlot (s := s) (n := n) (f := fun b => { b with queue := b.queue ++ [i] }) rfl
  unfold State.admitCmd
  dsimp only
  split
  · exact (lines_onCtrl rfl).trans hqueued
  · exact hqueued

@[simp] theorem lines_issueExchange (s : State) (i : XtIx) (pool : Pool) :
    (s.issueExchange i pool).lines = s.lines := by
  unfold State.issueExchange
  split
  · split <;> simp
  · rfl

@[simp] theorem lines_markSent (s : State) (i : XtIx) : (s.markSent i).lines = s.lines := by
  unfold State.markSent
  split
  · split <;> simp
  · rfl

@[simp] theorem lines_takePark (s : State) (n : SlotIx) (t : RelayTag) : (s.takePark n t).lines = s.lines := by
  by_cases hsent : ∃ x sp d, s.exchange t.index = some x ∧ x.phase = .active none sp d ∧ s.tagNames n t x = true
  · obtain ⟨x, sp, d, hx, hp, hn⟩ := hsent
    rw [takePark_of_sent hx hp hn]
    split
    · simp
    · split <;> simp
  · rw [takePark_discarded fun x sp d hx hp => Bool.eq_false_iff.mpr fun hn => hsent ⟨x, sp, d, hx, hp, hn⟩]

@[simp] theorem lines_takeDone (s : State) (n : SlotIx) (d : DoneFrame) : (s.takeDone n d).lines = s.lines := by
  unfold State.takeDone
  split
  · split
    · split <;> simp
    · rfl
  · split <;> simp

@[simp] theorem lines_abortEntry (s : State) (i : XtIx) : (s.abortEntry i).1.lines = s.lines := by
  unfold State.abortEntry
  split
  · rfl
  · split <;> simp [State.toCancelling]

@[simp] theorem lines_takeDeadline (s : State) (i : XtIx) : (s.takeDeadline i).lines = s.lines := by
  unfold State.takeDeadline
  split
  · rfl
  · split <;> simp

theorem lines_disableOne (s : State) (i : XtIx) : (s.disableOne i).lines = s.lines :=
  disableOne_keeps State.lines (fun v j _ _ => lines_endExchange v j (.relay .slotDisabled) false) s i

theorem lines_tearDownOne (s : State) (l : CtrlIx) (i : XtIx) : (s.tearDownOne l i).lines = s.lines :=
  tearDownOne_keeps State.lines fun _ _ _ => (lines_freeEntry ..).trans (lines_queueCancel ..)

theorem lines_tearDownList (s : State) (l : CtrlIx) (is : List XtIx) : (s.tearDownList l is).lines = s.lines :=
  foldl_keeps _ State.lines (fun u i => lines_tearDownOne u l i) is s

theorem lines_restartOne (s : State) (i : XtIx) : (s.restartOne i).lines = s.lines := by
  unfold State.restartOne
  split
  · rfl
  · split <;> simp

/-! ## Reservations and slots -/

@[simp] theorem lines_handOverTo (s : State) (n : SlotIx) (ws : List CtrlIx) : (s.handOverTo n ws).lines = s.lines := by
  induction ws generalizing s with
  | nil => exact lines_onResv ..
  | cons w ws ih =>
    unfold State.handOverTo
    split
    · simp
    · rw [ih, lines_notify]

@[simp] theorem lines_handOver (s : State) (n : SlotIx) : (s.handOver n).lines = s.lines :=
  (lines_handOverTo ..).trans (lines_onResv ..)

theorem lines_dropLinkAt (s : State) (l : CtrlIx) (n : SlotIx) : (s.dropLinkAt l n).lines = s.lines := by
  unfold State.dropLinkAt
  dsimp only
  split <;> simp

@[simp] theorem lines_dropLink (s : State) (l : CtrlIx) : (s.dropLink l).lines = s.lines :=
  foldl_keeps _ State.lines (fun u n => lines_dropLinkAt u l n) _ _

@[simp] theorem lines_clearReservation (s : State) (n : SlotIx) (cause : NoticeCause) :
    (s.clearReservation n cause).lines = s.lines := by
  have htold (u : State) (ws : List CtrlIx) : (u.tellWaiters n cause ws).lines = u.lines :=
    foldl_keeps _ State.lines (fun v l => lines_notify v l ..) ws u
  rw [clearReservation_eq, lines_onResv, htold, State.tellHolder]
  split <;> simp

@[simp] theorem lines_revokeLease (s : State) (n : SlotIx) : (s.revokeLease n).lines = s.lines := by
  unfold State.revokeLease
  split <;> simp

@[simp] theorem lines_takeTake (s : State) (l : CtrlIx) (tag : Byte) (n : SlotIx) :
    (s.takeTake l tag n).lines = s.lines := by
  unfold State.takeTake
  dsimp only
  split
  · simp
  · split
    · simp
    · split
      · simp
      · split <;> simp

@[simp] theorem lines_takeRenew (s : State) (l : CtrlIx) (tag : Byte) (n : SlotIx) :
    (s.takeRenew l tag n).lines = s.lines := by
  unfold State.takeRenew
  split <;> simp

@[simp] theorem lines_takeDrop (s : State) (l : CtrlIx) (tag : Byte) (n : SlotIx) :
    (s.takeDrop l tag n).lines = s.lines := by
  unfold State.takeDrop
  dsimp only
  split
  · simp
  · split <;> simp

@[simp] theorem lines_slotLinkUp (s : State) (n : SlotIx) : (s.slotLinkUp n).lines = s.lines := by
  unfold State.slotLinkUp
  split <;> simp

@[simp] theorem lines_faultSlot (s : State) (n : SlotIx) (cause : LastFault) :
    (s.faultSlot n cause).lines = s.lines := by
  unfold State.faultSlot
  split
  · rw [lines_notifyManager, lines_onSlot rfl, lines_endSlotWork]
  · rfl

@[simp] theorem lines_escalate (s : State) (n : SlotIx) : (s.escalate n).lines = s.lines := by
  rw [State.escalate, lines_clearReservation, lines_notifyManager, State.startPulse, lines_setSlotState]

@[simp] theorem lines_resetSlot (s : State) (n : SlotIx) : (s.resetSlot n).lines = s.lines := by
  unfold State.resetSlot
  dsimp only
  rw [lines_clearReservation, State.startPulse, lines_setSlotState]
  split <;> simp

@[simp] theorem lines_acknowledge (s : State) (id : Byte) (n : SlotIx) : (s.acknowledge id n).lines = s.lines := by
  unfold State.acknowledge
  split <;> simp

@[simp] theorem lines_clearSlot (s : State) (n : SlotIx) : (s.clearSlot n).lines = s.lines := by
  unfold State.clearSlot
  split <;> simp

@[simp] theorem lines_takeOrphanExpiry (s : State) (n : SlotIx) (t : RelayTag) :
    (s.takeOrphanExpiry n t).lines = s.lines := by
  unfold State.takeOrphanExpiry
  split <;> simp

/-! ## Requests of several entries -/

@[simp] theorem lines_takeCmd (s : State) (l : CtrlIx) (c : CmdFrame) : (s.takeCmd l c).lines = s.lines := by
  cases hcheck : s.admissionCheck l c with
  | error code => rw [takeCmd_of_refused hcheck, lines_queueReply, lines_endOffer]
  | ok place => rw [takeCmd_of_admitted hcheck, lines_admitCmd, lines_endOffer]

@[simp] theorem lines_takeAbort (s : State) (l : CtrlIx) (tag : Byte) : (s.takeAbort l tag).lines = s.lines := by
  cases ht : s.tagged l tag with
  | none => rw [takeAbort_of_untagged ht, lines_queueReply]
  | some i => rw [takeAbort_of_tagged ht, lines_queueReply, lines_abortEntry]

@[simp] theorem lines_restartAll (s : State) : s.restartAll.lines = s.lines := by
  unfold State.restartAll
  dsimp only
  rw [foldl_keeps _ State.lines fun u n => lines_clearReservation u n .restart,
    foldl_keeps _ State.lines fun u l => lines_onCtrl rfl, foldl_keeps _ State.lines lines_restartOne]

@[simp] theorem lines_takeRestart (s : State) (l : CtrlIx) (tag : Byte) : (s.takeRestart l tag).lines = s.lines := by
  unfold State.takeRestart
  split <;> simp

@[simp] theorem lines_takeSlotReset (s : State) (l : CtrlIx) (tag : Byte) (n : SlotIx) :
    (s.takeSlotReset l tag n).lines = s.lines := by
  unfold State.takeSlotReset
  split
  · split <;> simp
  · simp

@[simp] theorem lines_activateNow (s : State) (m : CtrlIx) : (s.activateNow m).lines = s.lines := by
  obtain ⟨is, heq, -⟩ := exists_activateNow s m
  rw [heq, State.announceTo, foldl_keeps _ State.lines fun u l => lines_notify u l .., State.disableList,
    foldl_keeps _ State.lines lines_disableOne]
  rfl

end Sys2Proof.Machine
end

section
/-! PROOFS. Every event goes on to a next state and keeps the links in order (Section 11): the operations that write a
link, the commands one by one, and the step. -/

namespace Sys2Proof.Machine

open Sys2Proof

/-! ## Departures, and causes that may wait (R97, R168) -/

theorem within_emptyQueues {b : CtrlBlock} (h : b.Within) : b.emptyQueues.Within := ⟨h.link, Nat.zero_le _⟩

theorem bounded_tornDown {s : State} (h : s.Bounded) (l : CtrlIx) : (s.tornDown l).Bounded := by
  have hleft : (s.leftUp l).Bounded := bounded_onCtrl (bounded_of_lines_eq h (lines_withWaiting s _))
    fun hb => within_onLink hb (within_leaveUp hb.link)
  exact bounded_onCtrl (bounded_of_lines_eq hleft (lines_tearDownList ..)) within_emptyQueues

theorem bounded_tellDeparture {s : State} (h : s.Bounded) (l : CtrlIx) (cause : DepartCause) :
    (s.tellDeparture l cause).Bounded := by
  have hdown : (s.tellDown l cause).Bounded := by
    unfold State.tellDown
    exact bounded_onCtrl (bounded_of_lines_eq h (lines_notifyManager ..)) fun hb =>
      within_onLink hb (within_depart hb.link _ _ _)
  unfold State.tellDeparture
  dsimp only
  split
  · exact bounded_of_lines_eq hdown (lines_notifyManager ..)
  · exact hdown

theorem bounded_departCtrl {s : State} (h : s.Bounded) (l : CtrlIx) (cause : DepartCause) :
    (s.departCtrl l cause).Bounded := by
  rw [departCtrl_eq]
  exact bounded_tellDeparture (bounded_of_lines_eq (bounded_tornDown h l) (lines_dropLink ..)) l cause

theorem bounded_takeWaiting {s : State} (h : s.Bounded) (w : WaitingCause) : (s.takeWaiting w).Bounded := by
  cases w with
  | abort l tag _ => exact bounded_of_lines_eq h (lines_takeAbort s l tag)
  | deadline i => exact bounded_of_lines_eq h (lines_takeDeadline s i)
  | done n d => exact bounded_of_lines_eq h (lines_takeDone s n d)
  | departure l cause => exact bounded_departCtrl h l cause
  | restart l tag => exact bounded_of_lines_eq h (lines_takeRestart s l tag)
  | slotReset l tag n => exact bounded_of_lines_eq h (lines_takeSlotReset s l tag n)
  | faultFrame n code => exact bounded_of_lines_eq h (lines_faultSlot s n (.faultFrame code))
  | orphanExpired n t => exact bounded_of_lines_eq h (lines_takeOrphanExpiry s n t)

theorem bounded_resolveWaiting {s : State} (h : s.Bounded) : s.resolveWaiting.Bounded := by
  refine List.foldlRecOn _ _ h fun u hu w _ => ?_
  rw [resolveOne_eq]
  split
  · exact bounded_takeWaiting (bounded_of_lines_eq hu (lines_withWaiting ..)) w
  · exact hu

theorem bounded_arise {s : State} (h : s.Bounded) (w : WaitingCause) : (s.arise w).Bounded := by
  unfold State.arise
  split
  · exact bounded_of_lines_eq h (lines_withWaiting ..)
  · exact bounded_takeWaiting h w

theorem bounded_departSlotLink {s : State} (h : s.Bounded) (n : SlotIx) (cause : DepartCause) :
    (s.departSlotLink n cause).Bounded := by
  have hleft := bounded_onSlot h (n := n)
    (f := fun b => { b.onLink (·.depart Config.slotBufferPlaces s.now cause) with sendQ := [] })
    fun hb => within_depart hb _ _ _
  unfold State.departSlotLink
  dsimp only
  split
  · exact bounded_of_lines_eq hleft (by simp)
  · exact bounded_of_lines_eq hleft (by simp)

theorem bounded_linkLeaves {s : State} (h : s.Bounded) (k : LinkId) (cause : DepartCause) :
    (s.linkLeaves k cause).Bounded := by
  cases k with
  | ctrl l =>
    unfold State.linkLeaves
    dsimp only
    split
    · exact h
    · exact bounded_arise h _
  | slot n => exact bounded_resolveWaiting (bounded_departSlotLink h n cause)

theorem bounded_linkEntersUp {s : State} (h : s.Bounded) (k : LinkId) (size : Nat) :
    (s.linkEntersUp k size).Bounded := by
  have hup := bounded_onLink h (k := k) (f := (·.toUp size)) fun hb => within_toUp hb size
  cases k with
  | ctrl l => exact bounded_of_lines_eq hup (lines_notifyManager ..)
  | slot n => exact bounded_of_lines_eq hup (lines_slotLinkUp ..)

theorem bounded_lineLost {s : State} (h : s.Bounded) (k : LinkId) : (s.lineLost k).Bounded := by
  have hstopped := bounded_onLink h (k := k) (f := fun b => { b with lineTimer := none }) within_stopLineTimer
  unfold State.lineLost
  dsimp only
  split
  next => exact bounded_linkLeaves hstopped k .lineLost
  next hwait =>
    refine bounded_onLink hstopped fun hb => within_goDown hb ?_ ?_
    · rw [hwait]
      exact LinkState.noConfusion
    · rw [link_onLink_self]
  next => exact hstopped

/-! ## Frames that come and go (R169, R173 to R176) -/

theorem bounded_tookFrame {s : State} {l : CtrlIx} {f : RxFrame} (h : s.Bounded) (hf : s.nextFrame l = some f) :
    (s.tookFrame l).Bounded := by
  obtain ⟨hup, -⟩ := takes_of_nextFrame hf
  exact bounded_onCtrl h fun hb => within_onLink hb (within_takeHead hb.link hup)

theorem bounded_tookSlotFrame {s : State} {n : SlotIx} {f : RxFrame} (h : s.Bounded)
    (hf : s.nextSlotFrame n = some f) : (s.tookSlotFrame n).Bounded := by
  obtain ⟨hup, -⟩ := takes_of_nextSlotFrame hf
  exact bounded_onSlot h fun hb => within_takeHead hb hup

theorem bounded_sent {s : State} (h : s.Bounded) (n : SlotIx) : (s.onSlot n (·.sent)).Bounded :=
  bounded_onSlot h fun hb => within_endSend hb

theorem bounded_respSent {s : State} (h : s.Bounded) (l : CtrlIx) : (s.respSent l).Bounded := by
  have hended := bounded_onCtrl h (l := l) (f := (·.onLink (·.endSend))) fun hb =>
    within_onLink hb (within_endSend hb.link)
  unfold State.respSent
  dsimp only
  split
  · split
    · exact bounded_of_lines_eq hended (lines_freeEntry ..)
    · exact hended
  · exact hended

/-! ## What an event answers -/

/-- The outcome is a next state, and one whose links are in order if those of s are. -/
def State.KeepsLinks (s : State) (o : Host.Outcome State Fault Refusal) : Prop :=
  ∃ t, o = .next t ∧ (s.linksOk → t.linksOk)

section Commands

variable {s : State}

theorem keepsLinks_stay : s.KeepsLinks s.stay := ⟨s, rfl, id⟩

theorem keepsLinks_complete {u : State} (h : s.Bounded → u.Bounded) : s.KeepsLinks u.complete :=
  ⟨u.settle, rfl, fun hs => linksOk_settle (h (bounded_of_linksOk hs))⟩

/-- An event that leaves the links and the room of the Notice Queues alone. -/
theorem keepsLinks_complete_of_lines_eq {u : State} (h : u.lines = s.lines) : s.KeepsLinks u.complete :=
  keepsLinks_complete fun hs => bounded_of_lines_eq hs h

theorem keepsLinks_atExpiry (e : Nat) {effect : State → State} (h : ∀ u : State, u.Bounded → (effect u).Bounded) :
    s.KeepsLinks (s.atExpiry e effect) := by
  unfold State.atExpiry
  dsimp only
  split
  · exact keepsLinks_complete fun hs => h _ (bounded_of_lines_eq hs (lines_atTime ..))
  · exact keepsLinks_stay

theorem keepsLinks_atExpiry_of_lines_eq (e : Nat) {effect : State → State}
    (h : ∀ u : State, (effect u).lines = u.lines) :
    s.KeepsLinks (s.atExpiry e effect) :=
  keepsLinks_atExpiry e fun u hu => bounded_of_lines_eq hu (h u)

variable (s)

/-! ### Pins and lines -/

theorem ctrl_resetWith (strap l : CtrlIx) : (State.resetWith strap).ctrl l = CtrlBlock.reset :=
  Vector.getElem_replicate l.isLt

theorem slot_resetWith (strap : CtrlIx) (n : SlotIx) : (State.resetWith strap).slot n = SlotBlock.reset :=
  Vector.getElem_replicate n.isLt

theorem linksOk_resetWith (strap : CtrlIx) : (State.resetWith strap).linksOk := by
  refine ⟨fun l => ?_, fun n => ?_⟩
  · rw [ctrl_resetWith]
    exact ⟨rfl, Nat.zero_le _, rfl⟩
  · rw [slot_resetWith]
    exact ⟨rfl, rfl⟩

/-- The links in order do not depend on the clock and on the queue of commands. -/
theorem linksOk_at {s : State} (h : s.linksOk) (now : Nat) (cs : List Instr) :
    { s with now := now, pending := cs }.linksOk := ⟨h.1, h.2⟩

theorem keepsLinks_hardwareReset (strap : CtrlIx) : s.KeepsLinks (execHardwareReset strap s) :=
  ⟨_, rfl, fun _ => linksOk_at (linksOk_resetWith strap) _ _⟩

theorem keepsLinks_lineLock (k : LinkId) : s.KeepsLinks (execLineLock k s) := by
  unfold execLineLock
  split
  · exact keepsLinks_stay
  · exact keepsLinks_complete fun hs => bounded_onLink hs fun hb => within_lock hb _

theorem keepsLinks_lineUnlock (k : LinkId) : s.KeepsLinks (execLineUnlock k s) := by
  unfold execLineUnlock
  split
  · exact keepsLinks_complete fun hs => bounded_onLink hs fun hb => within_unlock hb _
  · exact keepsLinks_stay

theorem keepsLinks_lineLost (k : LinkId) : s.KeepsLinks (execLineLost k s) := by
  unfold execLineLost
  split
  · exact keepsLinks_atExpiry _ fun u hu => bounded_lineLost hu k
  · exact keepsLinks_stay

theorem keepsLinks_creditStall (k : LinkId) : s.KeepsLinks (execCreditStall k s) := by
  unfold execCreditStall
  split
  · exact keepsLinks_atExpiry _ fun u hu => bounded_linkLeaves (bounded_onLink hu within_stopStall) k _
  · exact keepsLinks_stay

theorem keepsLinks_helloArrives (k : LinkId) (frame : List Byte) : s.KeepsLinks (s.helloArrives k frame) := by
  unfold State.helloArrives
  split
  · exact keepsLinks_complete fun hs => bounded_linkEntersUp hs k _
  · split
    · exact keepsLinks_stay
    · exact keepsLinks_complete fun hs => bounded_linkLeaves hs k _
  · exact keepsLinks_stay

theorem keepsLinks_frameArrives (k : LinkId) (a : Arrival) : s.KeepsLinks (s.frameArrives k a) := by
  unfold State.frameArrives
  split
  next hup =>
    split
    next => exact keepsLinks_complete fun hs => bounded_linkLeaves hs k _
    next hroom =>
      exact keepsLinks_complete fun hs => bounded_onLink hs fun hb => within_receive hb hup.1 (Nat.not_le.mp hroom) a
  next => exact keepsLinks_stay

/-- A frame is taken for what its kind byte says (log 25). -/
theorem keepsLinks_received (k : LinkId) (frame : List Byte) : s.KeepsLinks (if frame.head? = some helloKind then
    s.helloArrives k frame else s.frameArrives k (checkFrame k frame)) := by
  split
  · exact keepsLinks_helloArrives s k frame
  · exact keepsLinks_frameArrives s k _

/-! ### Admission and ABORT -/

theorem keepsLinks_cmdOffered (l : CtrlIx) : s.KeepsLinks (execCmdOffered l s) := by
  unfold execCmdOffered
  split
  next hf =>
    exact keepsLinks_complete fun hs => bounded_onCtrl (bounded_tookFrame hs hf) fun hb => ⟨hb.link, hb.notices⟩
  next => exact keepsLinks_stay

theorem keepsLinks_cmd : s.KeepsLinks (execCmd s) := by
  unfold execCmd
  split
  · split
    · exact keepsLinks_complete_of_lines_eq (lines_takeCmd ..)
    · exact keepsLinks_stay
  · exact keepsLinks_stay

theorem keepsLinks_abort (l : CtrlIx) : s.KeepsLinks (execAbort l s) := by
  unfold execAbort
  split
  next hf =>
    dsimp only
    split
    · exact keepsLinks_complete fun hs => bounded_arise (bounded_tookFrame hs hf) _
    · exact keepsLinks_complete fun hs => bounded_of_lines_eq (bounded_tookFrame hs hf) (lines_takeAbort ..)
  next => exact keepsLinks_stay

/-! ### Requests -/

theorem keepsLinks_resvRequest (l : CtrlIx) (kind : ResvKind) {effect : Byte → State → SlotIx → State}
    (h : ∀ tag (u : State) n, (effect tag u n).lines = u.lines) : s.KeepsLinks (s.resvRequest l kind effect) := by
  unfold State.resvRequest
  split
  next hf =>
    split
    · refine keepsLinks_complete fun hs => bounded_of_lines_eq (bounded_tookFrame hs hf) ?_
      unfold State.takeResv
      split
      · exact h ..
      · exact lines_answerResv ..
    · exact keepsLinks_stay
  next => exact keepsLinks_stay

theorem keepsLinks_mgmtRequest (l : CtrlIx) (wanted : Byte → Bool) {effect : Byte → List Byte → State → State}
    (h : ∀ tag args (u : State), u.Bounded → (effect tag args u).Bounded) :
    s.KeepsLinks (s.mgmtRequest l wanted effect) := by
  unfold State.mgmtRequest
  split
  next hf =>
    split
    · exact keepsLinks_complete fun hs => h _ _ _ (bounded_tookFrame hs hf)
    · exact keepsLinks_stay
  next => exact keepsLinks_stay

section Request

variable {s} (h : s.Bounded) (l : CtrlIx) (tag : Byte)

include h

theorem bounded_answer (r : ReplyResult) (d : List Byte) : (s.answer l tag r d).Bounded :=
  bounded_of_lines_eq h (lines_answer ..)

theorem bounded_privileged {effect : State → State} (he : (effect s).Bounded) :
    (s.privileged l tag effect).Bounded := by
  unfold State.privileged
  split
  · exact he
  · exact bounded_answer h _ _ _ _

theorem bounded_noArgs (args : List Byte) {effect : State → State} (he : (effect s).Bounded) :
    (s.noArgs l tag args effect).Bounded := by
  unfold State.noArgs
  split
  · exact he
  · exact bounded_answer h _ _ _ _

theorem bounded_oneArg (args : List Byte) {effect : Byte → State → State} (he : ∀ a, (effect a s).Bounded) :
    (s.oneArg l tag args effect).Bounded := by
  unfold State.oneArg
  split
  · exact he _
  · exact bounded_answer h _ _ _ _

end Request

theorem keepsLinks_readIdent (l : CtrlIx) : s.KeepsLinks (execReadIdent l s) :=
  keepsLinks_mgmtRequest s l _ fun _ _ _ hu => bounded_noArgs hu _ _ _ (bounded_answer hu _ _ _ _)

theorem keepsLinks_readEntry (l : CtrlIx) : s.KeepsLinks (execReadEntry l s) := by
  refine keepsLinks_mgmtRequest s l _ fun _ _ _ hu => ?_
  split
  · split <;> exact bounded_answer hu _ _ _ _
  · exact bounded_answer hu _ _ _ _

theorem keepsLinks_readSlot (l : CtrlIx) : s.KeepsLinks (execReadSlot l s) := by
  refine keepsLinks_mgmtRequest s l _ fun _ _ _ hu => bounded_oneArg hu _ _ _ fun _ => ?_
  split <;> exact bounded_answer hu _ _ _ _

theorem keepsLinks_readExchange (l : CtrlIx) : s.KeepsLinks (execReadExchange l s) := by
  refine keepsLinks_mgmtRequest s l _ fun _ _ _ hu => bounded_oneArg hu _ _ _ fun _ => ?_
  split <;> exact bounded_answer hu _ _ _ _

theorem keepsLinks_readStore (l : CtrlIx) : s.KeepsLinks (execReadStore l s) :=
  keepsLinks_mgmtRequest s l _ fun _ _ _ hu => bounded_noArgs hu _ _ _ (bounded_answer hu _ _ _ _)

theorem bounded_stage {u : State} (h : u.Bounded) (bank : Bank) : { u with staged := bank }.Bounded := ⟨h.ctrl, h.slot⟩

theorem keepsLinks_writeEntry (l : CtrlIx) : s.KeepsLinks (execWriteEntry l s) := by
  refine keepsLinks_mgmtRequest s l _ fun _ _ _ hu => bounded_privileged hu _ _ ?_
  split
  · exact bounded_answer (bounded_stage hu _) _ _ _ _
  · exact bounded_answer hu _ _ _ _

theorem keepsLinks_revert (l : CtrlIx) : s.KeepsLinks (execRevert l s) :=
  keepsLinks_mgmtRequest s l _ fun _ _ _ hu => bounded_privileged hu _ _
    (bounded_noArgs hu _ _ _ (bounded_answer (bounded_stage hu _) _ _ _ _))

theorem keepsLinks_activate (l : CtrlIx) : s.KeepsLinks (execActivate l s) := by
  refine keepsLinks_mgmtRequest s l _ fun _ _ _ hu => bounded_privileged hu _ _ (bounded_noArgs hu _ _ _ ?_)
  split
  · exact bounded_answer (bounded_of_lines_eq hu (lines_activateNow ..)) _ _ _ _
  · exact bounded_answer hu _ _ _ _

theorem keepsLinks_noticeAck (l : CtrlIx) : s.KeepsLinks (execNoticeAck l s) := by
  refine keepsLinks_mgmtRequest s l _ fun _ _ _ hu => bounded_privileged hu _ _ (bounded_oneArg hu _ _ _ fun id => ?_)
  split
  · exact bounded_answer (bounded_of_lines_eq hu (foldl_keeps _ State.lines (lines_acknowledge · id) _ _)) _ _ _ _
  · exact bounded_answer hu _ _ _ _

theorem keepsLinks_slotClear (l : CtrlIx) : s.KeepsLinks (execSlotClear l s) := by
  refine keepsLinks_mgmtRequest s l _ fun _ _ _ hu => bounded_privileged hu _ _ (bounded_oneArg hu _ _ _ fun a => ?_)
  split
  · exact bounded_answer hu _ _ _ _
  · split
    · exact bounded_answer (bounded_of_lines_eq hu (lines_clearSlot ..)) _ _ _ _
    all_goals exact bounded_answer hu _ _ _ _

theorem keepsLinks_slotReset (l : CtrlIx) : s.KeepsLinks (execSlotReset l s) := by
  refine keepsLinks_mgmtRequest s l _ fun _ _ _ hu => bounded_privileged hu _ _ (bounded_oneArg hu _ _ _ fun a => ?_)
  split
  · exact bounded_answer hu _ _ _ _
  · exact bounded_arise hu _

theorem keepsLinks_relayRestart (l : CtrlIx) : s.KeepsLinks (execRelayRestart l s) :=
  keepsLinks_mgmtRequest s l _ fun _ _ _ hu => bounded_privileged hu _ _ (bounded_noArgs hu _ _ _ (bounded_arise hu _))

theorem keepsLinks_mgmtUnknownRequest (l : CtrlIx) : s.KeepsLinks (execMgmtUnknownRequest l s) :=
  keepsLinks_mgmtRequest s l _ fun _ _ _ hu => bounded_answer hu _ _ _ _

/-! ### Issues -/

theorem keepsLinks_issue (n : SlotIx) : s.KeepsLinks (execIssue n s) := by
  unfold execIssue
  split
  · split
    · split
      · exact keepsLinks_complete_of_lines_eq (lines_issueExchange ..)
      · exact keepsLinks_stay
    · exact keepsLinks_stay
  · exact keepsLinks_stay

theorem keepsLinks_generalGrant : s.KeepsLinks (execGeneralGrant s) := by
  unfold execGeneralGrant
  split
  · exact keepsLinks_complete_of_lines_eq (lines_issueExchange ..)
  · exact keepsLinks_stay

theorem keepsLinks_reserveGrant (l : CtrlIx) : s.KeepsLinks (execReserveGrant l s) := by
  unfold execReserveGrant
  split
  · split
    · exact keepsLinks_complete_of_lines_eq (lines_issueExchange ..)
    · exact keepsLinks_stay
  · exact keepsLinks_stay

theorem keepsLinks_overtakingIssue (n : SlotIx) : s.KeepsLinks (execOvertakingIssue n s) := by
  unfold execOvertakingIssue
  split
  · split
    · exact keepsLinks_complete_of_lines_eq (lines_issueExchange ..)
    · exact keepsLinks_stay
  · exact keepsLinks_stay

/-! ### Frames that leave -/

/-- A frame begins only on a link in UP (R175, R176). -/
theorem within_begin_of_mayBegin {places : Nat} {b : LinkBlock} (h : b.Within places) (hmay : b.mayBegin = true)
    (what : Sending) (bytes : List Byte) : (b.begin what bytes).Within places := by
  obtain ⟨hup, -⟩ := (mayBegin_iff b).mp hmay
  exact within_begin h hup what bytes

theorem keepsLinks_slotLinkSend (n : SlotIx) : s.KeepsLinks (execSlotLinkSend n s) := by
  unfold execSlotLinkSend
  split
  next hmay =>
    split
    · exact keepsLinks_complete fun hs => bounded_onSlot hs fun hb => within_begin_of_mayBegin hb hmay _ _
    · split
      · exact keepsLinks_complete fun hs => bounded_onSlot hs fun hb => within_begin_of_mayBegin hb hmay _ _
      · exact keepsLinks_stay
  next => exact keepsLinks_stay

theorem line_clearLost (what : Sending) (b : CtrlBlock) : (b.clearLost what).line = b.line := by
  unfold CtrlBlock.clearLost
  split <;> rfl

theorem keepsLinks_controllerLinkSend (l : CtrlIx) : s.KeepsLinks (execControllerLinkSend l s) := by
  unfold execControllerLinkSend
  split
  next hmay =>
    obtain ⟨hmay, -⟩ := hmay
    split
    · refine keepsLinks_complete fun hs => bounded_onCtrl hs fun hb => within_of_line_eq ?_ (line_clearLost _ _)
      exact within_onLink hb (within_begin_of_mayBegin hb.link hmay _ _)
    · split
      · refine keepsLinks_complete fun hs => bounded_onCtrl hs fun hb => within_onLink hb ?_
        exact within_begin_of_mayBegin hb.link hmay _ _
      · exact keepsLinks_stay
  next => exact keepsLinks_stay

theorem keepsLinks_issueSent (n : SlotIx) : s.KeepsLinks (execIssueSent n s) := by
  unfold execIssueSent
  split
  · exact keepsLinks_complete fun hs =>
      bounded_resolveWaiting (bounded_of_lines_eq (bounded_sent hs n) (lines_markSent ..))
  · exact keepsLinks_stay

theorem keepsLinks_cancelSent (n : SlotIx) : s.KeepsLinks (execCancelSent n s) := by
  unfold execCancelSent
  split
  · exact keepsLinks_complete fun hs => bounded_sent hs n
  · exact keepsLinks_stay

theorem keepsLinks_keepSent (n : SlotIx) : s.KeepsLinks (execKeepSent n s) := by
  unfold execKeepSent
  split
  · exact keepsLinks_complete fun hs => bounded_sent hs n
  · exact keepsLinks_stay

theorem keepsLinks_creditSent (k : LinkId) : s.KeepsLinks (execCreditSent k s) := by
  unfold execCreditSent
  split
  · exact keepsLinks_complete fun hs => bounded_onLink hs within_endSend
  · exact keepsLinks_stay

theorem keepsLinks_replySent (l : CtrlIx) : s.KeepsLinks (execReplySent l s) := by
  unfold execReplySent
  split
  · exact keepsLinks_complete fun hs => bounded_onCtrl hs fun hb => ⟨within_endSend hb.link, hb.notices⟩
  · exact keepsLinks_stay

theorem keepsLinks_noticeSent (l : CtrlIx) : s.KeepsLinks (execNoticeSent l s) := by
  unfold execNoticeSent
  split
  · refine keepsLinks_complete fun hs => bounded_onCtrl hs fun hb => ⟨within_endSend hb.link, ?_⟩
    rw [List.length_tail]
    exact (Nat.sub_le _ _).trans hb.notices
  · exact keepsLinks_stay

theorem keepsLinks_respSent (l : CtrlIx) : s.KeepsLinks (execRespSent l s) := by
  unfold execRespSent
  split
  · exact keepsLinks_complete fun hs => bounded_respSent hs l
  · exact keepsLinks_stay

/-! ### Frames of a card -/

theorem keepsLinks_park (n : SlotIx) : s.KeepsLinks (execPark n s) := by
  unfold execPark
  split
  next hf => exact keepsLinks_complete fun hs => bounded_of_lines_eq (bounded_tookSlotFrame hs hf) (lines_takePark ..)
  next => exact keepsLinks_stay

theorem keepsLinks_done (n : SlotIx) : s.KeepsLinks (execDone n s) := by
  unfold execDone
  split
  next hf =>
    dsimp only
    split
    · exact keepsLinks_complete fun hs => bounded_arise (bounded_tookSlotFrame hs hf) _
    · exact keepsLinks_complete fun hs => bounded_of_lines_eq (bounded_tookSlotFrame hs hf) (lines_takeDone ..)
  next => exact keepsLinks_stay

theorem keepsLinks_fault (n : SlotIx) : s.KeepsLinks (execFault n s) := by
  unfold execFault
  split
  next hf => exact keepsLinks_complete fun hs => bounded_arise (bounded_tookSlotFrame hs hf) _
  next => exact keepsLinks_stay

/-! ### Expiries -/

theorem keepsLinks_deadlineExpiry (i : XtIx) : s.KeepsLinks (execDeadlineExpiry i s) := by
  unfold execDeadlineExpiry
  split
  · exact keepsLinks_atExpiry _ fun _ hu => bounded_arise hu _
  · exact keepsLinks_stay

theorem keepsLinks_orphanExpiry (n : SlotIx) (t : RelayTag) : s.KeepsLinks (execOrphanExpiry n t s) := by
  unfold execOrphanExpiry
  split
  · split
    · exact keepsLinks_stay
    · exact keepsLinks_atExpiry _ fun _ hu => bounded_arise hu _
  · exact keepsLinks_stay

theorem keepsLinks_leaseExpiry (n : SlotIx) : s.KeepsLinks (execLeaseExpiry n s) := by
  unfold execLeaseExpiry
  split
  · exact keepsLinks_atExpiry_of_lines_eq _ fun u => lines_revokeLease u n
  · exact keepsLinks_stay

theorem keepsLinks_acknowledgeWindowExpiry (n : SlotIx) : s.KeepsLinks (execAcknowledgeWindowExpiry n s) := by
  unfold execAcknowledgeWindowExpiry
  split
  · exact keepsLinks_atExpiry_of_lines_eq _ fun u => lines_escalate u n
  · exact keepsLinks_stay

theorem keepsLinks_pulseEnd (n : SlotIx) : s.KeepsLinks (execPulseEnd n s) := by
  unfold execPulseEnd
  split
  · exact keepsLinks_atExpiry_of_lines_eq _ fun u => lines_setSlotState u n .offline
  · exact keepsLinks_stay

/-! ### Every command -/

theorem exec_keepsLinks (c : Instr) : s.KeepsLinks (exec c s) := by
  cases c with
  | hardwareReset strap => exact keepsLinks_hardwareReset s strap
  | lineLock k => exact keepsLinks_lineLock s k
  | lineUnlock k => exact keepsLinks_lineUnlock s k
  | lineLost k => exact keepsLinks_lineLost s k
  | creditStall k => exact keepsLinks_creditStall s k
  | hello k frame => exact keepsLinks_received s k frame
  | frameReceived k frame => exact keepsLinks_received s k frame
  | credit k count => exact keepsLinks_frameArrives s k _
  | cmdOffered l => exact keepsLinks_cmdOffered s l
  | cmd => exact keepsLinks_cmd s
  | abort l => exact keepsLinks_abort s l
  | take l => exact keepsLinks_resvRequest s l .take fun tag u n => lines_takeTake u l tag n
  | renew l => exact keepsLinks_resvRequest s l .renew fun tag u n => lines_takeRenew u l tag n
  | drop l => exact keepsLinks_resvRequest s l .drop fun tag u n => lines_takeDrop u l tag n
  | readIdent l => exact keepsLinks_readIdent s l
  | readEntry l => exact keepsLinks_readEntry s l
  | readSlot l => exact keepsLinks_readSlot s l
  | readExchange l => exact keepsLinks_readExchange s l
  | readStore l => exact keepsLinks_readStore s l
  | writeEntry l => exact keepsLinks_writeEntry s l
  | revert l => exact keepsLinks_revert s l
  | activate l => exact keepsLinks_activate s l
  | noticeAck l => exact keepsLinks_noticeAck s l
  | slotClear l => exact keepsLinks_slotClear s l
  | slotReset l => exact keepsLinks_slotReset s l
  | relayRestart l => exact keepsLinks_relayRestart s l
  | mgmtUnknownRequest l => exact keepsLinks_mgmtUnknownRequest s l
  | issue n => exact keepsLinks_issue s n
  | generalGrant => exact keepsLinks_generalGrant s
  | reserveGrant l => exact keepsLinks_reserveGrant s l
  | overtakingIssue n => exact keepsLinks_overtakingIssue s n
  | slotLinkSend n => exact keepsLinks_slotLinkSend s n
  | issueSent n => exact keepsLinks_issueSent s n
  | cancelSent n => exact keepsLinks_cancelSent s n
  | keepSent n => exact keepsLinks_keepSent s n
  | creditSent k => exact keepsLinks_creditSent s k
  | park n => exact keepsLinks_park s n
  | done n => exact keepsLinks_done s n
  | fault n => exact keepsLinks_fault s n
  | deadlineExpiry i => exact keepsLinks_deadlineExpiry s i
  | orphanExpiry n t => exact keepsLinks_orphanExpiry s n t
  | leaseExpiry n => exact keepsLinks_leaseExpiry s n
  | acknowledgeWindowExpiry n => exact keepsLinks_acknowledgeWindowExpiry s n
  | pulseEnd n => exact keepsLinks_pulseEnd s n
  | controllerLinkSend l => exact keepsLinks_controllerLinkSend s l
  | replySent l => exact keepsLinks_replySent s l
  | noticeSent l => exact keepsLinks_noticeSent s l
  | respSent l => exact keepsLinks_respSent s l

end Commands

/-! ## The step -/

/-- Settles O3: every command ends in an event's end, in no change, or in the reset state. -/
theorem everyCommandGoesOn : Obligations.EveryCommandGoesOn := fun c s =>
  (exec_keepsLinks s c).imp fun _ h => h.1

theorem linksOk_of_exec {s t : State} {c : Instr} (hs : s.linksOk) (h : exec c s = .next t) : t.linksOk := by
  obtain ⟨u, hu, hkeeps⟩ := exec_keepsLinks s c
  cases hu.symm.trans h
  exact hkeeps hs

/-- Settles O54: a command keeps the links in order, and so does the passing of time. -/
theorem stepKeepsLinks : Obligations.StepKeepsLinks := by
  intro s t hs hstep
  unfold step at hstep
  split at hstep
  next c rest _ => exact linksOk_of_exec (s := { s with pending := rest }) hs hstep
  next =>
    split at hstep
    next c _ => exact linksOk_of_exec hs hstep
    next =>
      cases hstep
      exact hs

end Sys2Proof.Machine
end

section
/-! PROOFS. Lines and links (Section 11, R167 to R170, R172): the line, HELLO, arriving frames, the four causes by which
a link leaves UP, and the stall timers at the end of an event. -/

namespace Sys2Proof.Machine

open Sys2Proof

/-! ## The end of an event (R172) -/

theorem still_settle_link (b : LinkBlock) (now : Nat) (cond : Bool) : (b.settle now cond).still = b.still := by
  cases cond <;> rfl

theorem still_settle (s : State) : s.settle.still = s.still := by
  have hctrls : (fun l => (s.settle.ctrl l).onLink LinkBlock.still) = fun l => (s.ctrl l).onLink LinkBlock.still := by
    funext l
    rw [ctrl_settle]
    exact congrArg (fun b => { s.ctrl l with link := b }) (still_settle_link ..)
  have hslots : (fun n => (s.settle.slot n).onLink LinkBlock.still) = fun n => (s.slot n).onLink LinkBlock.still := by
    funext n
    rw [slot_settle]
    exact congrArg (fun b => { s.slot n with link := b }) (still_settle_link ..)
  unfold State.still
  rw [hctrls, hslots]
  rfl

theorem stall_settle (b : LinkBlock) (now : Nat) (cond : Bool) :
    (b.settle now cond).stall = if cond = true then some (b.stall.getD (now + 5000000)) else none := by
  cases cond <;> rfl

/-- The last credit held is usable only for a frame that returns one, or with a partner of one place (R170). -/
theorem not_canUseCredit_iff (b : LinkBlock) :
    b.canUseCredit = false ↔ b.held = 0 ∨ b.held = 1 ∧ b.owed = 0 ∧ b.announced ≠ 1 := by
  have hcan : b.canUseCredit = true ↔ 2 ≤ b.held ∨ b.held = 1 ∧ (1 ≤ b.owed ∨ b.announced = 1) := by
    simp [LinkBlock.canUseCredit]
  rw [← Bool.not_eq_true, hcan]
  omega

theorem stalls_iff (b : LinkBlock) (waits departing : Bool) :
    b.stalls waits departing = true ↔ b.state = .up ∧ departing = false ∧ waits = true
      ∧ (b.held = 0 ∨ b.held = 1 ∧ b.owed = 0 ∧ b.announced ≠ 1) := by
  simp [LinkBlock.stalls, ← not_canUseCredit_iff, and_assoc]

/-- Settles O5: the end of an event writes the stall timers only, each by its condition. -/
theorem eventEndMovesStallTimersOnly : Obligations.EventEndMovesStallTimersOnly := by
  refine fun s => ⟨still_settle s, fun l => ?_, fun n => ?_⟩
  · rw [ctrl_settle]
    refine (stall_settle ..).trans ?_
    simp only [stalls_iff]
  · rw [slot_settle]
    refine (stall_settle ..).trans ?_
    simp only [stalls_iff, true_and]

/-! ## The line locks and unlocks (R167, R168) -/

theorem exec_lineLock (k : LinkId) (s : State) : exec (.lineLock k) s = execLineLock k s := rfl
theorem exec_lineUnlock (k : LinkId) (s : State) : exec (.lineUnlock k) s = execLineUnlock k s := rfl

theorem lock_eq (places : Nat) (b : LinkBlock) : b.lock places = if b.state = .down then
      { b with locked := true, lineTimer := none, state := .waitHello, txLine := helloBytes places }
    else { b with locked := true, lineTimer := none } := rfl

section Lock

variable {s : State} {k : LinkId}

theorem execLineLock_of_unlocked (h : (s.link k).locked = false) :
    execLineLock k s = .next (s.onLink k (·.lock (bufferPlaces k))).settle := by
  simp [execLineLock, h, State.complete]

theorem execLineLock_of_locked (h : (s.link k).locked = true) : execLineLock k s = .next s := by
  simp [execLineLock, h, State.stay]

theorem execLineUnlock_of_locked (h : (s.link k).locked = true) :
    execLineUnlock k s = .next (s.onLink k (·.unlock s.now)).settle := by
  simp [execLineUnlock, h, State.complete]

theorem execLineUnlock_of_unlocked (h : (s.link k).locked = false) : execLineUnlock k s = .next s := by
  simp [execLineUnlock, h, State.stay]

end Lock

/-- Settles O6: the four cases of the two commands and the line condition. -/
theorem lineLockAndUnlock : Obligations.LineLockAndUnlock := by
  refine fun k s => ⟨fun h => ?_, fun h => ?_, fun h => ?_, fun h => ?_⟩
  · rw [exec_lineLock, execLineLock_of_unlocked h]
    simp only [lock_eq]
  · rw [exec_lineLock, execLineLock_of_locked h]
  · rw [exec_lineUnlock, execLineUnlock_of_locked h]
    rfl
  · rw [exec_lineUnlock, execLineUnlock_of_unlocked h]

/-! ## The line-loss timer and the stall timer expire (R168, R172) -/

theorem exec_lineLost (k : LinkId) (s : State) : exec (.lineLost k) s = execLineLost k s := rfl
theorem exec_creditStall (k : LinkId) (s : State) : exec (.creditStall k) s = execCreditStall k s := rfl

section Expiry

variable {s : State} {k : LinkId}

theorem execLineLost_of_running {e : Nat} (h : (s.link k).lineTimer = some e) (hc : s.canExpire e) :
    execLineLost k s = .next ((s.atTime (max s.now e)).lineLost k).settle := by
  rw [execLineLost, h]
  exact atExpiry_of_canExpire hc _

theorem execLineLost_of_not_canExpire {e : Nat} (h : (s.link k).lineTimer = some e) (hc : ¬ s.canExpire e) :
    execLineLost k s = .next s := by
  rw [execLineLost, h]
  exact atExpiry_of_not_canExpire hc _

theorem execLineLost_of_stopped (h : (s.link k).lineTimer = none) : execLineLost k s = .next s := by
  rw [execLineLost, h]
  rfl

theorem execCreditStall_of_running {e : Nat} (h : (s.link k).stall = some e) (hc : s.canExpire e) :
    execCreditStall k s = .next (((s.atTime (max s.now e)).onLink k fun b => { b with stall := none }).linkLeaves k
      .creditStall).settle := by
  rw [execCreditStall, h]
  exact atExpiry_of_canExpire hc _

theorem lineLost_of_up (h : (s.link k).state = .up) :
    s.lineLost k = (s.onLink k fun b => { b with lineTimer := none }).linkLeaves k .lineLost := by
  simp [State.lineLost, h]

theorem execLineLost_of_up {e : Nat} (h : (s.link k).lineTimer = some e) (hc : s.canExpire e)
    (hup : (s.link k).state = .up) : execLineLost k s = .next (((s.atTime (max s.now e)).onLink k fun b =>
      { b with lineTimer := none }).linkLeaves k .lineLost).settle := by
  rw [execLineLost_of_running h hc, lineLost_of_up (by rwa [link_atTime])]

theorem lineLost_of_waitHello (h : (s.link k).state = .waitHello) :
    s.lineLost k = s.onLink k fun b => { b with lineTimer := none, state := .down } := by
  simp [State.lineLost, h, onLink_onLink]

end Expiry

/-- Settles O7: the expiry that can be taken, the one that cannot yet, and a timer that does not run. -/
theorem lineLostInWaitHelloMakesTheLinkDown : Obligations.LineLostInWaitHelloMakesTheLinkDown := by
  refine fun k s => ⟨fun e he hc hw => ?_, fun e he hc => ?_, fun h => ?_⟩
  · rw [exec_lineLost, execLineLost_of_running he hc, lineLost_of_waitHello (by rwa [link_atTime])]
  · rw [exec_lineLost, execLineLost_of_not_canExpire he hc]
  · rw [exec_lineLost, execLineLost_of_stopped h]

/-! ## What arrives (R167, R169) -/

section Arrival

variable {s : State} {k : LinkId}

/-- Under either name a frame is taken for what its kind byte says (log 25). -/
theorem exec_hello_of_kind {frame : List Byte} (h : frame.head? = some helloKind) (k : LinkId) (s : State) :
    exec (.hello k frame) s = s.helloArrives k frame := if_pos h

theorem exec_frameReceived_of_other {frame : List Byte} (h : frame.head? ≠ some helloKind) (k : LinkId) (s : State) :
    exec (.frameReceived k frame) s = s.frameArrives k (checkFrame k frame) := if_neg h

theorem exec_frameReceived_eq_hello (frame : List Byte) (k : LinkId) (s : State) :
    exec (.frameReceived k frame) s = exec (.hello k frame) s := rfl

theorem exec_hello_of_other {frame : List Byte} (h : frame.head? ≠ some helloKind) (k : LinkId) (s : State) :
    exec (.hello k frame) s = s.frameArrives k (checkFrame k frame) := if_neg h

theorem exec_credit (k : LinkId) (count : Byte) (s : State) : exec (.credit k count) s
    = s.frameArrives k (if count.toNat ≤ 16 then .credit count.toNat else .corrupt) := rfl

theorem helloArrives_of_waitHello {frame : List Byte} {size : Nat} (hsize : helloSize k frame = some size)
    (h : (s.link k).state = .waitHello) : s.helloArrives k frame = .next (s.linkEntersUp k size).settle := by
  simp [State.helloArrives, hsize, h, State.complete]

theorem helloArrives_of_up {frame : List Byte} {size : Nat} (hsize : helloSize k frame = some size)
    (h : (s.link k).state = .up) (hd : s.linkDeparting k = false) :
    s.helloArrives k frame = .next (s.linkLeaves k (.partnerRestart size)).settle := by
  simp [State.helloArrives, hsize, h, hd, State.complete]

theorem helloArrives_of_departing {frame : List Byte} (h : (s.link k).state = .up) (hd : s.linkDeparting k = true) :
    s.helloArrives k frame = .next s := by
  cases hsize : helloSize k frame <;> simp [State.helloArrives, hsize, h, hd, State.stay]

theorem helloArrives_of_malformed {frame : List Byte} (hsize : helloSize k frame = none) :
    s.helloArrives k frame = .next s := by
  simp [State.helloArrives, hsize, State.stay]

theorem helloArrives_of_down {frame : List Byte} (h : (s.link k).state = .down) : s.helloArrives k frame = .next s := by
  cases hsize : helloSize k frame <;> simp [State.helloArrives, hsize, h, State.stay]

theorem frameArrives_of_full {a : Arrival} (h : (s.link k).state = .up) (hd : s.linkDeparting k = false)
    (hfull : bufferPlaces k ≤ (s.link k).buffer.length) :
    s.frameArrives k a = .next (s.linkLeaves k .creditViolation).settle := by
  simp [State.frameArrives, h, hd, hfull, State.complete]

/-- The link is in UP, its departure does not wait, and its receive buffer has a free place. -/
def State.hasRoom (s : State) (k : LinkId) : Prop :=
  (s.link k).state = .up ∧ s.linkDeparting k = false ∧ (s.link k).buffer.length < bufferPlaces k

theorem frameArrives_of_hasRoom (h : s.hasRoom k) (a : Arrival) :
    s.frameArrives k a = .next (s.onLink k (·.receive a)).settle := by
  obtain ⟨hup, hd, hroom⟩ := h
  simp [State.frameArrives, hup, hd, hroom, State.complete]

theorem frameArrives_discarded (h : (s.link k).state ≠ .up ∨ s.linkDeparting k = true) (a : Arrival) :
    s.frameArrives k a = .next s := by
  refine if_neg fun ⟨hup, hd⟩ => ?_
  rcases h with h | h
  · exact h hup
  · simp [h] at hd

end Arrival

/-- Settles O12: the results of the arrival checks, and the discarding out of UP. -/
theorem arrivingFrameTakesAPlace : Obligations.ArrivingFrameTakesAPlace := by
  intro k s frame hkind add room
  have hframe {a : Arrival} (hroom : s.hasRoom k) (ha : checkFrame k frame = a) :
      exec (.frameReceived k frame) s = .next (s.onLink k (·.receive a)).settle := by
    rw [exec_frameReceived_of_other hkind, frameArrives_of_hasRoom hroom, ha]
  refine ⟨hframe, fun _ => hframe, fun _ => hframe, fun _ _ => hframe, fun count hroom hc => ?_,
    fun count hroom hc => ?_, fun h => ⟨?_, fun count => ?_⟩⟩
  · rw [exec_credit, if_pos hc, frameArrives_of_hasRoom hroom]
    rfl
  · rw [exec_credit, if_neg (Nat.not_le.mpr hc), frameArrives_of_hasRoom hroom]
    rfl
  · rw [exec_frameReceived_of_other hkind, frameArrives_discarded h]
  · rw [exec_credit, frameArrives_discarded h]

/-! ## A link enters UP (R128, R166, R167) -/

theorem slotLinkUp_of_offline {s : State} {n : SlotIx} (h : (s.slot n).state = .offline) :
    s.slotLinkUp n = (s.setSlotState n .online).notifyManager .slotOnline (slotByte n) .none [] := if_pos h

theorem slotLinkUp_of_not_offline {s : State} {n : SlotIx} (h : (s.slot n).state ≠ .offline) : s.slotLinkUp n = s :=
  if_neg h

theorem linkEntersUp_slot_of_offline {s : State} {n : SlotIx} (h : (s.slot n).state = .offline) (size : Nat) :
    s.linkEntersUp (.slot n) size = (s.onSlot n fun b =>
      { b with link := b.link.toUp size, state := .online }).notifyManager .slotOnline (slotByte n) .none [] := by
  have hup : ((s.onLink (.slot n) (·.toUp size)).slot n).state = .offline := by
    rw [State.onLink, slot_onSlot_self]
    exact h
  rw [State.linkEntersUp, slotLinkUp_of_offline hup, State.setSlotState, State.onLink, onSlot_onSlot]
  rfl

theorem linkEntersUp_slot_of_not_offline {s : State} {n : SlotIx} (h : (s.slot n).state ≠ .offline) (size : Nat) :
    s.linkEntersUp (.slot n) size = s.onSlot n fun b => { b with link := b.link.toUp size } := by
  have hup : ((s.onLink (.slot n) (·.toUp size)).slot n).state ≠ .offline := by
    rw [State.onLink, slot_onSlot_self]
    exact h
  exact slotLinkUp_of_not_offline hup

/-- Settles O11: the links in WAIT_HELLO, a malformed HELLO, and a HELLO in DOWN. -/
theorem helloBringsALinkUp : Obligations.HelloBringsALinkUp := by
  intro frame s hkind up
  refine ⟨fun l size hsize h => ?_, fun n size hsize h hoff => ?_, fun n size hsize h hon => ?_, fun k hsize => ?_,
    fun k h => ?_⟩
  · rw [exec_hello_of_kind hkind, helloArrives_of_waitHello hsize h]
    rfl
  · rw [exec_hello_of_kind hkind, helloArrives_of_waitHello hsize h, linkEntersUp_slot_of_offline hoff]
    rfl
  · rw [exec_hello_of_kind hkind, helloArrives_of_waitHello hsize h, linkEntersUp_slot_of_not_offline hon]
    rfl
  · rw [exec_hello_of_kind hkind, helloArrives_of_malformed hsize]
  · rw [exec_hello_of_kind hkind, helloArrives_of_down h]

/-! ## A Slot Link leaves UP (R168) -/

theorem readLine_eq (now : Nat) (b : LinkBlock) : b.readLine now
    = { b with lineTimer := if b.locked then b.lineTimer else some (b.lineTimer.getD (now + 50000)) } := by
  unfold LinkBlock.readLine
  split <;> rfl

/-- LINE_LOST on a line that has not locked meanwhile leads to DOWN. -/
theorem depart_lineLost_of_unlocked {b : LinkBlock} (h : b.locked = false) (places now : Nat) :
    b.depart places now .lineLost = { b.leaveUp with state := .down, lineTimer := none } := by
  have hleft : b.leaveUp.locked = false := h
  simp [LinkBlock.depart, hleft]

/-- The link after a departure that ends neither in DOWN nor in UP: a fresh HELLO, and the line read afresh. -/
def LinkBlock.afresh (b : LinkBlock) (places now : Nat) : LinkBlock :=
  { b.leaveUp with
    state := .waitHello
    txLine := helloBytes places
    lineTimer := if b.locked then b.lineTimer else some (b.lineTimer.getD (now + 50000)) }

theorem depart_creditStall (b : LinkBlock) (places now : Nat) :
    b.depart places now .creditStall = b.afresh places now := readLine_eq ..

theorem depart_creditViolation (b : LinkBlock) (places now : Nat) :
    b.depart places now .creditViolation = b.afresh places now := readLine_eq ..

theorem depart_partnerRestart (b : LinkBlock) (places now size : Nat) : b.depart places now (.partnerRestart size)
    = { b.afresh places now with state := .up, held := size, announced := size } := readLine_eq ..

/-- The Slot Link has left UP: the link is where the departure leads, and the Slot Send Queue is empty (R52). -/
def State.slotLinkLost (s : State) (n : SlotIx) (f : LinkBlock → LinkBlock) : State :=
  (s.onSlot n fun b => { b with link := f b.link, sendQ := [] }).faultSlot n .linkLost

section SlotLink

variable (s : State) (n : SlotIx)

theorem departSlotLink_of_not_returns {cause : DepartCause} (h : cause.returns = false) :
    s.departSlotLink n cause = s.slotLinkLost n (·.depart 4 s.now cause) := by
  unfold State.departSlotLink
  rw [h]
  rfl

theorem departSlotLink_partnerRestart (size : Nat) : s.departSlotLink n (.partnerRestart size)
    = (s.slotLinkLost n (·.depart 4 s.now (.partnerRestart size))).slotLinkUp n := rfl

theorem linkLeaves_slot (cause : DepartCause) :
    s.linkLeaves (.slot n) cause = (s.departSlotLink n cause).resolveWaiting := rfl

/-- A write of the link before the departure. -/
theorem slotLinkLost_onLink (f g : LinkBlock → LinkBlock) :
    (s.onLink (.slot n) g).slotLinkLost n f = s.slotLinkLost n fun b => f (g b) := by
  unfold State.slotLinkLost
  rw [State.onLink, onSlot_onSlot]
  rfl

theorem slotLinkLost_congr {f g : LinkBlock → LinkBlock} (h : f (s.slot n).link = g (s.slot n).link) :
    s.slotLinkLost n f = s.slotLinkLost n g := by
  have hsame := onSlot_congr s n (f := fun b => { b with link := f b.link, sendQ := [] })
    (g := fun b => { b with link := g b.link, sendQ := [] }) (by simp only [h])
  rw [State.slotLinkLost, hsame, State.slotLinkLost]

end SlotLink

/-- Settles O8: each cause leads the link to its place, and the rest of the departure is the same. -/
theorem slotLinkLeavesUp : Obligations.SlotLinkLeavesUp := by
  intro n s hup gone reread fresh
  refine ⟨fun e he hc hl => ?_, fun e he hc => ?_, fun frame hkind hfull => ?_, fun frame size hkind hsize => ?_⟩
  · rw [exec_lineLost, execLineLost_of_up (k := .slot n) he hc hup, linkLeaves_slot,
      departSlotLink_of_not_returns _ _ rfl, slotLinkLost_onLink]
    refine congrArg (fun u : State => Host.Outcome.next u.resolveWaiting.settle)
      (slotLinkLost_congr _ n (g := fun b => { gone b with state := .down, lineTimer := none }) ?_)
    exact depart_lineLost_of_unlocked hl 4 (max s.now e)
  · rw [exec_creditStall, execCreditStall_of_running (k := .slot n) he hc, linkLeaves_slot,
      departSlotLink_of_not_returns _ _ rfl, slotLinkLost_onLink]
    simp only [depart_creditStall]
    rfl
  · rw [exec_frameReceived_of_other hkind, frameArrives_of_full (k := .slot n) hup rfl hfull, linkLeaves_slot,
      departSlotLink_of_not_returns _ _ rfl]
    simp only [depart_creditViolation]
    rfl
  · rw [exec_hello_of_kind hkind, helloArrives_of_up hsize hup rfl, linkLeaves_slot, departSlotLink_partnerRestart]
    simp only [depart_partnerRestart]
    rfl

/-! ## A Controller Link leaves UP, or waits (R97, R168) -/

/-- A cause on a link in UP: discarded while a departure waits, waiting for an ISSUE of the link, or taken. -/
theorem linkLeaves_ctrl (s : State) (l : CtrlIx) (cause : DepartCause) : s.linkLeaves (.ctrl l) cause
    = if s.departing l then s
      else if s.transitReached (.departure l cause) then s.withWaiting (s.waiting ++ [.departure l cause])
      else s.departCtrl l cause := rfl

/-- Settles O9: the four causes, and what arrives while a departure waits. -/
theorem controllerLinkLeavesUpOrWaits : Obligations.ControllerLinkLeavesUpOrWaits := by
  intro l s hup leaves
  refine ⟨fun e he hc => ?_, fun e he hc => ?_, fun frame hkind hd hfull => ?_, fun frame size hkind hsize hd => ?_,
    fun hd frame => ?_⟩
  · rw [exec_lineLost, execLineLost_of_up (k := .ctrl l) he hc hup, linkLeaves_ctrl]
  · rw [exec_creditStall, execCreditStall_of_running (k := .ctrl l) he hc, linkLeaves_ctrl]
  · rw [exec_frameReceived_of_other hkind, frameArrives_of_full (k := .ctrl l) hup hd hfull, linkLeaves_ctrl]
  · rw [exec_hello_of_kind hkind, helloArrives_of_up hsize hup hd, linkLeaves_ctrl]
  · rw [exec_frameReceived_eq_hello, and_self]
    by_cases hkind : frame.head? = some helloKind
    · rw [exec_hello_of_kind hkind, helloArrives_of_departing (k := .ctrl l) hup hd]
    · rw [exec_hello_of_other hkind, frameArrives_discarded (k := .ctrl l) (.inr hd)]

/-! ## Frames that a link may not take (R173, R174) -/

theorem nextFrame_eq_none {s : State} {l : CtrlIx} (h : (s.ctrl l).link.state ≠ .up ∨ 8 ≤ (s.ctrl l).replyQ.length
    ∨ (s.ctrl l).offered ≠ none ∨ s.ctrlWaits l = true ∨ s.departing l = true ∨ (s.ctrl l).link.buffer = []) :
    s.nextFrame l = none := by
  refine Option.eq_none_iff_forall_ne_some.mpr fun f hf => ?_
  obtain ⟨hup, hreply, hoffered, hwaits, hdeparting, hhead⟩ := takes_of_nextFrame hf
  rcases h with h | h | h | h | h | h
  · exact h hup
  · omega
  · exact h hoffered
  · simp [h] at hwaits
  · simp [h] at hdeparting
  · simp [h] at hhead

theorem nextSlotFrame_eq_none {s : State} {n : SlotIx}
    (h : (s.slot n).link.state ≠ .up ∨ s.slotWaits n = true ∨ (s.slot n).link.buffer = []) :
    s.nextSlotFrame n = none := by
  refine Option.eq_none_iff_forall_ne_some.mpr fun f hf => ?_
  obtain ⟨hup, hwaits, hhead⟩ := takes_of_nextSlotFrame hf
  rcases h with h | h | h
  · exact h hup
  · simp [h] at hwaits
  · simp [h] at hhead

theorem resvRequest_of_no_frame {s : State} {l : CtrlIx} (h : s.nextFrame l = none) (kind : ResvKind)
    (effect : Byte → State → SlotIx → State) : s.resvRequest l kind effect = .next s := by
  rw [State.resvRequest, h]
  rfl

theorem mgmtRequest_of_no_frame {s : State} {l : CtrlIx} (h : s.nextFrame l = none) (wanted : Byte → Bool)
    (effect : Byte → List Byte → State → State) : s.mgmtRequest l wanted effect = .next s := by
  rw [State.mgmtRequest, h]
  rfl

theorem execCmdOffered_of_no_frame {s : State} {l : CtrlIx} (h : s.nextFrame l = none) :
    execCmdOffered l s = .next s := by
  rw [execCmdOffered, h]
  rfl

theorem execAbort_of_no_frame {s : State} {l : CtrlIx} (h : s.nextFrame l = none) : execAbort l s = .next s := by
  rw [execAbort, h]
  rfl

theorem execPark_of_no_frame {s : State} {n : SlotIx} (h : s.nextSlotFrame n = none) : execPark n s = .next s := by
  rw [execPark, h]
  rfl

theorem execDone_of_no_frame {s : State} {n : SlotIx} (h : s.nextSlotFrame n = none) : execDone n s = .next s := by
  rw [execDone, h]
  rfl

theorem execFault_of_no_frame {s : State} {n : SlotIx} (h : s.nextSlotFrame n = none) : execFault n s = .next s := by
  rw [execFault, h]
  rfl

/-- Settles O14: without a frame to take, each of the commands that take one changes nothing. -/
theorem framesStayWhileTheLinkMayNotTakeThem : Obligations.FramesStayWhileTheLinkMayNotTakeThem := by
  refine fun s => ⟨fun l h => ?_, fun n h => ?_⟩
  · have hnone := nextFrame_eq_none h
    have hresv := resvRequest_of_no_frame hnone
    have hmgmt := mgmtRequest_of_no_frame hnone
    simp only [List.forall_mem_cons, exec_readIdent, exec_readEntry, exec_readSlot, exec_readExchange, exec_readStore,
      exec_writeEntry, exec_revert, exec_activate, exec_noticeAck, exec_slotClear, exec_slotReset, exec_relayRestart,
      exec_mgmtUnknownRequest]
    exact ⟨execCmdOffered_of_no_frame hnone, execAbort_of_no_frame hnone, hresv _ _, hresv _ _, hresv _ _, hmgmt _ _,
      hmgmt _ _, hmgmt _ _, hmgmt _ _, hmgmt _ _, hmgmt _ _, hmgmt _ _, hmgmt _ _, hmgmt _ _, hmgmt _ _, hmgmt _ _,
      hmgmt _ _, hmgmt _ _, List.forall_mem_nil _⟩
  · have hnone := nextSlotFrame_eq_none h
    simp only [List.forall_mem_cons]
    exact ⟨execPark_of_no_frame hnone, execDone_of_no_frame hnone, execFault_of_no_frame hnone, List.forall_mem_nil _⟩

end Sys2Proof.Machine
end

section
/-! PROOFS. The transmit arbiters (Section 11, R170, R171, R175, R176): which frame a Slot Link and a Controller Link
begins, its header and bytes, and what its last byte leaves. -/

namespace Sys2Proof.Machine

open Sys2Proof

/-! ## A frame begins to leave (R170) -/

theorem exec_slotLinkSend (n : SlotIx) (s : State) : exec (.slotLinkSend n) s = execSlotLinkSend n s := rfl
theorem exec_controllerLinkSend (l : CtrlIx) (s : State) :
    exec (.controllerLinkSend l) s = execControllerLinkSend l s := rfl

/-- The header that a beginning frame gives to its link: one credit used, every owed credit up to 16 returned. -/
theorem begin_eq (b : LinkBlock) (what : Sending) (bytes : List Byte) : b.begin what bytes = { b with
    held := b.held - 1
    owedOther := b.owedOther - min (b.owedOther + b.owedCredit) 16
    owedCredit := b.owedCredit - (min (b.owedOther + b.owedCredit) 16 - b.owedOther)
    sending := some what
    txLine := bytes } := by
  rw [LinkBlock.begin, returnCount_eq]

theorem beginCredit_eq (b : LinkBlock) :
    b.beginCredit = b.begin .credit (frameBytes 0x02 (min (b.owedOther + b.owedCredit) 16) []) := by
  rw [LinkBlock.beginCredit, returnCount_eq]
  rfl

theorem owesCreditFrame_iff (b : LinkBlock) : b.owesCreditFrame = true ↔ 1 ≤ b.owedOther := by
  simp [LinkBlock.owesCreditFrame]

/-! ## A Slot Link (R176) -/

section SlotSend

variable {s : State} {n : SlotIx}

/-- The state in which Slot Link n has begun a frame. -/
def State.slotBegins (s : State) (n : SlotIx) (what : Sending) (bytes : List Byte) : State :=
  s.onSlot n fun c => { c with link := (s.slot n).link.begin what bytes }

/-- Beginning a frame as a change of the slot's own block. -/
theorem slotBegins_eq (s : State) (n : SlotIx) (what : Sending) (bytes : List Byte) :
    s.slotBegins n what bytes = s.onSlot n (·.onLink (·.begin what bytes)) :=
  onSlot_congr s n rfl

theorem slotBegins_credit (s : State) (n : SlotIx) : s.slotBegins n .credit (frameBytes 0x02
    (min ((s.slot n).link.owedOther + (s.slot n).link.owedCredit) 16) []) = s.onSlot n (·.onLink (·.beginCredit)) := by
  rw [State.slotBegins, ← beginCredit_eq]
  exact onSlot_congr s n rfl

theorem execSlotLinkSend_of_not_mayBegin (h : (s.slot n).link.mayBegin = false) : execSlotLinkSend n s = .next s := by
  simp [execSlotLinkSend, h, State.stay]

section May

variable (hmay : (s.slot n).link.mayBegin = true)

include hmay

theorem execSlotLinkSend_of_frame {f : SlotFrame} {bytes : List Byte} (h : s.nextSlotSend n = some (f, bytes)) :
    execSlotLinkSend n s = .next (s.slotBegins n (.slotFrame f) bytes).settle := by
  rw [execSlotLinkSend, if_pos hmay, h, slotBegins_eq]
  rfl

theorem execSlotLinkSend_of_credit (h : s.nextSlotSend n = none) (howed : 1 ≤ (s.slot n).link.owedOther) :
    execSlotLinkSend n s = .next (s.slotBegins n .credit (frameBytes 0x02
      (min ((s.slot n).link.owedOther + (s.slot n).link.owedCredit) 16) [])).settle := by
  rw [execSlotLinkSend, if_pos hmay, h, slotBegins_credit]
  dsimp only
  rw [if_pos ((owesCreditFrame_iff _).mpr howed)]
  rfl

theorem execSlotLinkSend_of_nothing (h : s.nextSlotSend n = none) (howed : (s.slot n).link.owedOther = 0) :
    execSlotLinkSend n s = .next s := by
  rw [execSlotLinkSend, if_pos hmay, h]
  exact if_neg fun hcredit => by
    have := (owesCreditFrame_iff _).mp hcredit
    omega

end May

theorem nextSlotSend_of_empty (h : (s.slot n).sendQ = []) : s.nextSlotSend n = none := by
  rw [State.nextSlotSend, h]

theorem nextSlotSend_of_heldBack {f : SlotFrame} {rest : List SlotFrame} (hq : (s.slot n).sendQ = f :: rest)
    (h : s.frameHeldBack f = true) : s.nextSlotSend n = none := by
  rw [State.nextSlotSend, hq]
  exact if_pos h

theorem nextSlotSend_of_head {f : SlotFrame} {rest : List SlotFrame} {bytes : List Byte}
    (hq : (s.slot n).sendQ = f :: rest) (h : s.frameHeldBack f = false)
    (hbytes : s.slotFrameBytes (min ((s.slot n).link.owedOther + (s.slot n).link.owedCredit) 16) f = some bytes) :
    s.nextSlotSend n = some (f, bytes) := by
  rw [← returnCount_eq] at hbytes
  simp [State.nextSlotSend, hq, h, hbytes]

theorem slotFrameBytes_issue {t : RelayTag} {x : Exchange} {c : CmdSpace} (hx : s.exchange t.index = some x)
    (hc : x.cmdSpace = some c) (count : Nat) :
    s.slotFrameBytes count (.issue t) = some (issueBytes count t x.id c.payload) := by
  simp [State.slotFrameBytes, hx, hc]

end SlotSend

/-- An ISSUE is held back by the waiting causes of several entries that reach its exchange (R97). -/
theorem heldBack_iff {s : State} {i : XtIx} {x : Exchange} (hx : s.exchange i = some x) :
    s.heldBack i = true ↔ ∃ w ∈ s.waiting, w.reaches x = true := by
  simp [State.heldBack, hx]

/-- The causes of several entries and what each reaches: a link's exchanges, all of them, a slot's exchanges. -/
theorem reaches_iff (w : WaitingCause) (x : Exchange) : w.reaches x = true ↔ match w with
    | .departure l _ => l = x.id.link
    | .restart _ _ => True
    | .slotReset _ _ m | .faultFrame m _ | .orphanExpired m _ => m = x.id.slot
    | .abort _ _ _ | .deadline _ | .done _ _ => False := by
  cases w with
  | departure => exact beq_iff_eq.trans eq_comm
  | slotReset => exact beq_iff_eq.trans eq_comm
  | faultFrame => exact beq_iff_eq.trans eq_comm
  | orphanExpired => exact beq_iff_eq.trans eq_comm
  | restart => exact iff_of_true rfl trivial
  | abort => exact iff_of_false Bool.false_ne_true id
  | deadline => exact iff_of_false Bool.false_ne_true id
  | done => exact iff_of_false Bool.false_ne_true id

/-- Settles O41: the head of the queue by its kind, the empty queue, and a link that may not begin. -/
theorem slotLinkSendsItsOldestFrame : Obligations.SlotLinkSendsItsOldestFrame := by
  intro n s b count begins may
  have hbegins (what : Sending) (bytes : List Byte) : s.slotBegins n what bytes = begins what bytes := by
    rw [State.slotBegins, begin_eq]
  have hmayBegin : may → (s.slot n).link.mayBegin = true := (mayBegin_iff _).mpr
  have hframe {f : SlotFrame} {rest : List SlotFrame} {bytes : List Byte} (hmay : may)
      (hq : (s.slot n).sendQ = f :: rest) (hheld : s.frameHeldBack f = false)
      (hbytes : s.slotFrameBytes count f = some bytes) :
      exec (.slotLinkSend n) s = .next (begins (.slotFrame f) bytes).settle := by
    rw [exec_slotLinkSend, execSlotLinkSend_of_frame (hmayBegin hmay) (nextSlotSend_of_head hq hheld hbytes), hbegins]
  have hcredit (hmay : may) (hnone : s.nextSlotSend n = none) (howed : 1 ≤ b.owedOther) :
      exec (.slotLinkSend n) s = .next (begins .credit (frameBytes 0x02 count [])).settle := by
    rw [exec_slotLinkSend, execSlotLinkSend_of_credit (hmayBegin hmay) hnone howed, hbegins]
  refine ⟨?issue, fun t rest hmay hq => hframe hmay hq rfl rfl, fun t rest hmay hq => hframe hmay hq rfl rfl,
    fun hmay hq => hcredit hmay (nextSlotSend_of_empty hq),
    fun hmay hq => execSlotLinkSend_of_nothing (hmayBegin hmay) (nextSlotSend_of_empty hq),
    fun hmay => execSlotLinkSend_of_not_mayBegin (Bool.eq_false_iff.mpr fun h => hmay ((mayBegin_iff _).mp h))⟩
  case issue =>
    rintro t rest i x c hmay hq rfl hx hc
    refine ⟨fun hheld => hframe hmay hq hheld (slotFrameBytes_issue hx hc _), fun hheld => ?_, ?_⟩
    · have hnone := nextSlotSend_of_heldBack hq hheld
      exact ⟨execSlotLinkSend_of_nothing (hmayBegin hmay) hnone, hcredit hmay hnone⟩
    · rw [heldBack_iff hx]
      refine exists_congr fun w => and_congr_right fun _ => ?_
      exact reaches_iff w x

/-! ## A Controller Link (R175) -/

section CtrlSend

variable {s : State} {l : CtrlIx}

/-- The state in which Controller Link l has begun a frame; a notice takes the lost flag with it (R163). -/
def State.ctrlBegins (s : State) (l : CtrlIx) (what : Sending) (bytes : List Byte) : State :=
  s.onCtrl l fun c => { c with link := (s.ctrl l).link.begin what bytes }.clearLost what

/-- Beginning a frame as a change of the link's own block. -/
theorem ctrlBegins_eq (s : State) (l : CtrlIx) (what : Sending) (bytes : List Byte) :
    s.ctrlBegins l what bytes = s.onCtrl l fun c => (c.onLink (·.begin what bytes)).clearLost what :=
  onCtrl_congr s l rfl

theorem ctrlBegins_credit (s : State) (l : CtrlIx) : s.ctrlBegins l .credit (frameBytes 0x02
    (min ((s.ctrl l).link.owedOther + (s.ctrl l).link.owedCredit) 16) []) = s.onCtrl l (·.onLink (·.beginCredit)) := by
  rw [State.ctrlBegins, ← beginCredit_eq]
  exact onCtrl_congr s l rfl

/-- Link l is free to begin a frame, and its departure does not wait (R168, R175). -/
def State.ctrlMayBegin (s : State) (l : CtrlIx) : Prop := (s.ctrl l).link.mayBegin = true ∧ s.departing l = false

theorem execControllerLinkSend_of_not_may (h : ¬ s.ctrlMayBegin l) : execControllerLinkSend l s = .next s :=
  if_neg fun ⟨hmay, hd⟩ => h ⟨hmay, by simpa using hd⟩

section May

variable (hmay : s.ctrlMayBegin l)

include hmay

theorem execControllerLinkSend_of_frame {what : Sending} {bytes : List Byte}
    (h : s.nextCtrlSend l = some (what, bytes)) :
    execControllerLinkSend l s = .next (s.ctrlBegins l what bytes).settle := by
  obtain ⟨hbegin, hd⟩ := hmay
  rw [execControllerLinkSend, if_pos ⟨hbegin, by simp [hd]⟩, h, ctrlBegins_eq]
  rfl

theorem execControllerLinkSend_of_credit (h : s.nextCtrlSend l = none) (howed : 1 ≤ (s.ctrl l).link.owedOther) :
    execControllerLinkSend l s = .next (s.ctrlBegins l .credit (frameBytes 0x02
      (min ((s.ctrl l).link.owedOther + (s.ctrl l).link.owedCredit) 16) [])).settle := by
  obtain ⟨hbegin, hd⟩ := hmay
  rw [execControllerLinkSend, if_pos ⟨hbegin, by simp [hd]⟩, h, ctrlBegins_credit]
  dsimp only
  rw [if_pos ((owesCreditFrame_iff _).mpr howed)]
  rfl

theorem execControllerLinkSend_of_nothing (h : s.nextCtrlSend l = none) (howed : (s.ctrl l).link.owedOther = 0) :
    execControllerLinkSend l s = .next s := by
  obtain ⟨hbegin, hd⟩ := hmay
  rw [execControllerLinkSend, if_pos ⟨hbegin, by simp [hd]⟩, h]
  exact if_neg fun hcredit => by
    have := (owesCreditFrame_iff _).mp hcredit
    omega

end May

section Priority

variable (hreply : (s.ctrl l).replyQ = [])

theorem nextCtrlSend_of_reply {r : ReplyItem} {rest : List ReplyItem} (h : (s.ctrl l).replyQ = r :: rest) :
    s.nextCtrlSend l
      = some (.reply, r.bytes (min ((s.ctrl l).link.owedOther + (s.ctrl l).link.owedCredit) 16)) := by
  simp [State.nextCtrlSend, h, returnCount_eq]

include hreply

theorem nextCtrlSend_of_notice {m : Notice} {rest : List Notice} (h : (s.ctrl l).noticeQ = m :: rest) :
    s.nextCtrlSend l = some (.notice (s.ctrl l).lost, m.bytes
      (min ((s.ctrl l).link.owedOther + (s.ctrl l).link.owedCredit) 16) (s.ctrl l).lost) := by
  simp [State.nextCtrlSend, hreply, h, returnCount_eq]

variable (hnotice : (s.ctrl l).noticeQ = [])

include hnotice

theorem nextCtrlSend_of_resp {i : XtIx} {rest : List XtIx} {x : Exchange} {r : Response}
    (h : (s.ctrl l).releaseQ = i :: rest) (hx : s.exchange i = some x) (hp : x.phase = .released r) :
    s.nextCtrlSend l = some (.resp, respBytes
      (min ((s.ctrl l).link.owedOther + (s.ctrl l).link.owedCredit) 16) x.id.tag r) := by
  simp [State.nextCtrlSend, State.respOf, hreply, hnotice, h, hx, hp, returnCount_eq]

theorem nextCtrlSend_of_empty (h : (s.ctrl l).releaseQ = []) : s.nextCtrlSend l = none := by
  simp [State.nextCtrlSend, hreply, hnotice, h]

end Priority

end CtrlSend

/-! ## The bytes of the frames of a Controller Link (Table 12.1) -/

theorem replyBytes_eq (c : Nat) (tag : Byte) (kind : RequestKind) (result : ReplyResult) (data : List Byte) :
    (ReplyItem.reply tag kind result data).bytes c
      = frameBytes 0x21 c ([tag, kind.byte, result.byte, BitVec.ofNat 8 data.length] ++ data) :=
  congrArg (frameBytes 0x21 c) rfl

theorem refusalBytes_eq (c : Nat) (tag : Byte) (code : RelayCode) :
    (ReplyItem.refusal tag code).bytes c = frameBytes 0x20 c [tag, 1, code.byte] :=
  congrArg (frameBytes 0x20 c) rfl

theorem noticeBytes_eq (c : Nat) (m : Notice) (lost : Bool) : m.bytes c lost
    = frameBytes 0x22 c ([m.id, m.kind.byte, m.subject, m.cause.byte, if lost then 1 else 0,
      BitVec.ofNat 8 m.data.length] ++ m.data) :=
  congrArg (frameBytes 0x22 c) rfl

theorem respBytes_relay (c : Nat) (tag : Byte) (code : RelayCode) :
    respBytes c tag (.relay code) = frameBytes 0x20 c [tag, 1, code.byte] :=
  congrArg (frameBytes 0x20 c) rfl

theorem respBytes_slot (c : Nat) (tag : Byte) (a : SlotAnswer) : respBytes c tag (.slot a)
    = frameBytes 0x20 c ([tag, 0, (match a.outcome with
        | .completed => 0
        | .cancelled => 1), a.status, if a.lateAbort then 1 else 0, BitVec.ofNat 8 (a.payload.length / 256),
      BitVec.ofNat 8 a.payload.length] ++ a.payload) :=
  congrArg (frameBytes 0x20 c) (by cases a.outcome <;> rfl)

/-- Settles O44: the queues in the order of R175, and the bytes and codes by their definitions. -/
theorem controllerLinkSendsInPriority : Obligations.ControllerLinkSendsInPriority := by
  intro l s q b count header may
  have hmayBegin : may ↔ s.ctrlMayBegin l := by
    simp only [may, State.ctrlMayBegin, mayBegin_iff, and_assoc]
    rfl
  have hframe {what : Sending} {bytes : List Byte} (hmay : may) (h : s.nextCtrlSend l = some (what, bytes)) :
      exec (.controllerLinkSend l) s
        = .next (s.onCtrl l fun c => { c with link := header what bytes }.clearLost what).settle := by
    rw [exec_controllerLinkSend, execControllerLinkSend_of_frame (hmayBegin.mp hmay) h, State.ctrlBegins, begin_eq]
  refine ⟨?reply, ?notice, ?resp, ?credit, ?nothing, ?mayNot, ?layout, ?codes⟩
  case reply =>
    intro r rest hmay h
    rw [hframe hmay (nextCtrlSend_of_reply h)]
    rfl
  case notice =>
    intro m rest hmay hr h
    rw [hframe hmay (nextCtrlSend_of_notice hr h)]
    rfl
  case resp =>
    intro i rest x r hmay hr hn h hx hp
    rw [hframe hmay (nextCtrlSend_of_resp hr hn h hx hp)]
    rfl
  case credit =>
    intro hmay hr hn h howed
    have hnone := nextCtrlSend_of_empty hr hn h
    rw [exec_controllerLinkSend, execControllerLinkSend_of_credit (hmayBegin.mp hmay) hnone howed, State.ctrlBegins,
      begin_eq]
    rfl
  case nothing =>
    exact fun hmay hr hn h => execControllerLinkSend_of_nothing (hmayBegin.mp hmay) (nextCtrlSend_of_empty hr hn h)
  case mayNot => exact fun hmay => execControllerLinkSend_of_not_may fun h => hmay (hmayBegin.mpr h)
  case layout =>
    exact fun c tag => ⟨replyBytes_eq c tag, refusalBytes_eq c tag, noticeBytes_eq c, respBytes_relay c tag,
      respBytes_slot c tag⟩
  case codes => exact ⟨rfl, rfl, rfl, rfl, rfl⟩

/-! ## The last byte has left (R171, R175, R176) -/

section Sent

variable {s : State}

theorem execCancelSent_of_sending {n : SlotIx} {t : RelayTag} {rest : List SlotFrame}
    (h : (s.slot n).link.sending = some (.slotFrame (.cancel t))) (hq : (s.slot n).sendQ = .cancel t :: rest) :
    execCancelSent n s = .next (s.onSlot n fun b =>
      { b with sendQ := rest, link := { b.link with sending := none } }).settle := by
  have hsent := onSlot_congr s n (f := (·.sent))
    (g := fun b => { b with sendQ := rest, link := { b.link with sending := none } }) (sent_of_sendingHead h hq)
  rw [execCancelSent, h, ← hsent]
  rfl

theorem execKeepSent_of_sending {n : SlotIx} {t : RelayTag} {rest : List SlotFrame}
    (h : (s.slot n).link.sending = some (.slotFrame (.keep t))) (hq : (s.slot n).sendQ = .keep t :: rest) :
    execKeepSent n s = .next (s.onSlot n fun b =>
      { b with sendQ := rest, link := { b.link with sending := none } }).settle := by
  have hsent := onSlot_congr s n (f := (·.sent))
    (g := fun b => { b with sendQ := rest, link := { b.link with sending := none } }) (sent_of_sendingHead h hq)
  rw [execKeepSent, h, ← hsent]
  rfl

theorem execCreditSent_of_sending {k : LinkId} (h : (s.link k).sending = some .credit) :
    execCreditSent k s = .next (s.onLink k (·.endSend)).settle := by
  rw [execCreditSent, h]
  rfl

theorem execReplySent_of_sending {l : CtrlIx} (h : (s.ctrl l).link.sending = some .reply) : execReplySent l s
    = .next (s.onCtrl l fun b => { b.onLink (·.endSend) with replyQ := b.replyQ.tail }).settle := by
  rw [execReplySent, h]
  rfl

theorem execNoticeSent_of_sending {l : CtrlIx} {f : Bool} (h : (s.ctrl l).link.sending = some (.notice f)) :
    execNoticeSent l s
      = .next (s.onCtrl l fun b => { b.onLink (·.endSend) with noticeQ := b.noticeQ.tail }).settle := by
  rw [execNoticeSent, h]
  rfl

theorem execCancelSent_of_not_sending {n : SlotIx}
    (h : ∀ t, (s.slot n).link.sending ≠ some (.slotFrame (.cancel t))) : execCancelSent n s = .next s := by
  unfold execCancelSent
  split
  next t ht => exact absurd ht (h t)
  next => rfl

theorem execKeepSent_of_not_sending {n : SlotIx}
    (h : ∀ t, (s.slot n).link.sending ≠ some (.slotFrame (.keep t))) : execKeepSent n s = .next s := by
  unfold execKeepSent
  split
  next t ht => exact absurd ht (h t)
  next => rfl

theorem execCreditSent_of_not_sending {k : LinkId} (h : (s.link k).sending ≠ some .credit) :
    execCreditSent k s = .next s := by
  unfold execCreditSent
  split
  next hk => exact absurd hk h
  next => rfl

theorem execReplySent_of_not_sending {l : CtrlIx} (h : (s.ctrl l).link.sending ≠ some .reply) :
    execReplySent l s = .next s := by
  unfold execReplySent
  split
  next hl => exact absurd hl h
  next => rfl

theorem execNoticeSent_of_not_sending {l : CtrlIx} (h : ∀ f, (s.ctrl l).link.sending ≠ some (.notice f)) :
    execNoticeSent l s = .next s := by
  unfold execNoticeSent
  split
  next f hf => exact absurd hf (h f)
  next => rfl

theorem execRespSent_of_not_sending {l : CtrlIx} (h : (s.ctrl l).link.sending ≠ some .resp) :
    execRespSent l s = .next s := by
  unfold execRespSent
  split
  next hl => exact absurd hl h
  next => rfl

end Sent

/-- Settles O43: the six frames one by one, on their way and not. -/
theorem sentFrameLeavesItsQueue : Obligations.SentFrameLeavesItsQueue := fun _ =>
  ⟨fun _ _ _ => execCancelSent_of_sending, fun _ _ _ => execKeepSent_of_sending, fun _ => execCreditSent_of_sending,
    fun _ => execReplySent_of_sending, fun _ _ => execNoticeSent_of_sending, fun _ => execCancelSent_of_not_sending,
    fun _ => execKeepSent_of_not_sending, fun _ => execCreditSent_of_not_sending, fun _ => execReplySent_of_not_sending,
    fun _ => execNoticeSent_of_not_sending, fun _ => execRespSent_of_not_sending⟩

end Sys2Proof.Machine
end

section
/-! PROOFS. The step (Section 95, Table 11.2): the queue's front command, or time. -/

namespace Sys2Proof.Machine

open Sys2Proof

theorem step_of_pending {s : State} {c : Instr} {rest : List Instr} (h : s.pending = c :: rest) :
    step s = exec c { s with pending := rest } := by
  rw [step, h]

/-- Settles O1: the first of the two cases of the queue. -/
theorem stepTakesTheFrontCommand : Obligations.StepTakesTheFrontCommand :=
  fun _ _ _ => step_of_pending

/-- A timer may wait no longer once 50000 cycles, its slack of 1 ms, have passed. -/
theorem overdue_eq (s : State) :
    s.overdue = (s.timers.find? fun e => decide (e.1 + 50000 ≤ s.now)).map (·.2) := rfl

theorem overdue_eq_none {s : State} (h : ∀ e ∈ s.timers, s.now < e.1 + 50000) : s.overdue = none := by
  have hfind : (s.timers.find? fun e => decide (e.1 + 50000 ≤ s.now)) = none :=
    List.find?_eq_none.mpr fun e he => by simpa using h e he
  rw [overdue_eq, hfind, Option.map_none]

theorem overdue_eq_some {s : State} {e : Nat × Instr}
    (h : s.timers.find? (fun e => decide (e.1 + 50000 ≤ s.now)) = some e) : s.overdue = some e.2 := by
  rw [overdue_eq, h, Option.map_some]

theorem step_of_not_overdue {s : State} (hq : s.pending = []) (h : s.overdue = none) :
    step s = .next (s.atTime (s.now + 1)) := by
  rw [step, hq, h]
  rfl

theorem step_of_overdue {s : State} {c : Instr} (hq : s.pending = []) (h : s.overdue = some c) :
    step s = exec c s := by
  rw [step, hq, h]

/-- Settles O2: no timer has used up its slack, or the first of the list that has is taken. -/
theorem idleStepPassesTime : Obligations.IdleStepPassesTime :=
  fun _ hq => ⟨fun h => step_of_not_overdue hq (overdue_eq_none h), fun _ h => step_of_overdue hq (overdue_eq_some h)⟩

end Sys2Proof.Machine
end

section
/-! PROOFS. What a link makes of the bytes of a frame (Table 12.1, Table 11.1, R167, R169, R177 to R181). -/

namespace Sys2Proof.Machine

open Sys2Proof

/-! ## The checks of a frame by its parts (R169) -/

section Checks

variable {k : LinkId} {kind : Byte} {count : Nat} {body : List Byte}

theorem checkFrame_discarded (hc : count ≤ 16) (hb : body.length < 65536) (hk : kind ≠ creditKind)
    (hp : parseBody k kind body = none) : checkFrame k (frameBytes kind count body) = .discarded count := by
  simp [checkFrame, openFrame_frameBytes kind count body (by omega) hb, Config.maxCreditReturn, hk, hp, hc]

theorem checkFrame_credit (hc : count ≤ 16) : checkFrame k (frameBytes creditKind count []) = .credit count := by
  simp [checkFrame, openFrame_frameBytes creditKind count [] (by omega) (by simp), Config.maxCreditReturn, hc]

theorem checkFrame_credit_with_body (hc : count ≤ 16) (hb : body.length < 65536) (h : body ≠ []) :
    checkFrame k (frameBytes creditKind count body) = .discarded count := by
  simp [checkFrame, openFrame_frameBytes creditKind count body (by omega) hb, Config.maxCreditReturn, hc, h]

theorem checkFrame_count_above (hb : body.length < 65536) (hc : 16 < count) (hc' : count < 256) :
    checkFrame k (frameBytes kind count body) = .corrupt := by
  simp [checkFrame, openFrame_frameBytes kind count body hc' hb, Config.maxCreditReturn, hc]

theorem openFrame_bad_crc {rest : List Byte} {hi lo : Byte} (h : [hi, lo] ≠ be16 (crc16 rest).toNat) :
    openFrame (rest ++ [hi, lo]) = none := by
  simp [openFrame, h]

theorem checkFrame_bad_crc {rest : List Byte} {hi lo : Byte} (h : [hi, lo] ≠ be16 (crc16 rest).toNat) :
    checkFrame k (rest ++ [hi, lo]) = .corrupt := by
  rw [checkFrame, openFrame_bad_crc h]

/-- A CREDIT frame of its bytes is the command of that name (log 25). -/
theorem exec_frameReceived_credit (hc : count ≤ 16) (s : State) :
    exec (.frameReceived k (frameBytes creditKind count [])) s = exec (.credit k (BitVec.ofNat 8 count)) s := by
  have hkind : (frameBytes creditKind count []).head? ≠ some helloKind := by simp [frameBytes, creditKind, helloKind]
  have hcount : (BitVec.ofNat 8 count).toNat = count := toNat_byteOf (by omega)
  rw [exec_frameReceived_of_other hkind, checkFrame_credit hc, exec_credit, hcount, if_pos hc]

end Checks

/-! ## The bodies that a Controller Link keeps (Table 12.1) -/

theorem parseBody_cmd (l : CtrlIx) (body : List Byte) : parseBody (.ctrl l) 0x10 body = parseCmd body := rfl

theorem classOfByte_byte (cls : CmdClass) : classOfByte cls.byte = some cls := by cases cls <;> rfl

theorem parseCmd_layout (tag slotAddr : Byte) (cls : CmdClass) (ordered : Bool) {maxResp : Nat} {payload : List Byte}
    (hm : maxResp < 65536) (hp : payload.length < 65536) :
    parseCmd (tag :: slotAddr :: cls.byte :: boolByte ordered :: (be16 maxResp ++ be16 payload.length ++ payload))
      = some (.cmd { tag, slotAddr, cls, ordered, maxResp, payload }) := by
  simp [parseCmd, be16, classOfByte_byte, boolOfByte_boolByte, nat16_bytes _ hm, nat16_bytes _ hp]

theorem parseCmd_of_short {body : List Byte} (h : body.length < 8) : parseCmd body = none := by
  unfold parseCmd
  split
  next => simp at h; omega
  next => rfl

theorem classOfByte_none {b : Byte} (h : 1 < b.toNat) : classOfByte b = none := by
  rw [classOfByte, if_neg (ne_of_lt_toNat h 0 (by decide)), if_neg (ne_of_lt_toNat h 1 (by decide))]

/-- A CMD with a code that means nothing, or whose body is not as long as it says. -/
theorem parseCmd_none {tag a cls ord r1 r0 n1 n0 : Byte} {payload : List Byte}
    (h : 1 < cls.toNat ∨ 1 < ord.toNat ∨ payload.length ≠ nat16 n1 n0) :
    parseCmd (tag :: a :: cls :: ord :: r1 :: r0 :: n1 :: n0 :: payload) = none := by
  rcases h with hcls | hord | hlen
  · simp [parseCmd, classOfByte_none hcls]
  · simp [parseCmd, boolOfByte_none hord]
  · simp [parseCmd, hlen]

theorem parseBody_resv (l : CtrlIx) (tag k slotAddr : Byte) :
    parseBody (.ctrl l) 0x12 [tag, k, slotAddr] = (resvOfByte k).map fun k => .resv tag k slotAddr := rfl

theorem parseBody_resv_none (l : CtrlIx) {body : List Byte} (h : body.length ≠ 3) :
    parseBody (.ctrl l) 0x12 body = none := by
  match body with
  | [] | [_] | [_, _] => rfl
  | [_, _, _] => exact absurd rfl h
  | _ :: _ :: _ :: _ :: _ => rfl

theorem resvOfByte_none {b : Byte} (h : b.toNat = 0 ∨ 3 < b.toNat) : resvOfByte b = none := by
  have hne (k : Byte) (hk : k.toNat ≠ 0 ∧ k.toNat ≤ 3) : b ≠ k := by
    rintro rfl
    omega
  rw [resvOfByte, if_neg (hne 1 (by decide)), if_neg (hne 2 (by decide)), if_neg (hne 3 (by decide))]

theorem parseBody_mgmt_none (l : CtrlIx) {body : List Byte} (h : body.length < 2) :
    parseBody (.ctrl l) 0x13 body = none := by
  match body with
  | [] | [_] => rfl
  | _ :: _ :: _ => simp at h

/-- A kind that a Controller Link does not take (Table 11.1). -/
theorem parseBody_ctrl_other (l : CtrlIx) {kind : Byte} (body : List Byte)
    (h : kind ∉ [cmdKind, abortKind, resvKind, mgmtKind]) : parseBody (.ctrl l) kind body = none := by
  simp only [List.mem_cons, List.not_mem_nil, or_false, not_or] at h
  obtain ⟨hcmd, habort, hresv, hmgmt⟩ := h
  exact (if_neg hcmd).trans ((if_neg habort).trans ((if_neg hresv).trans (if_neg hmgmt)))

/-! ## The bodies that a Slot Link keeps (Table 12.1) -/

theorem parseBody_done (n : SlotIx) (body : List Byte) : parseBody (.slot n) 0x40 body = parseDone body := rfl

theorem outcomeOfByte_byte (o : DoneOutcome) : outcomeOfByte o.byte = some o := by cases o <;> rfl

theorem tagOfByte_byteOfTag (t : RelayTag) : tagOfByte (byteOfTag t) = t := by
  obtain ⟨i, g⟩ := t
  have hbyte : (byteOfTag ⟨i, g⟩).toNat = g.toNat * 64 + i.val := toNat_byteOf (by omega)
  have hindex : (g.toNat * 64 + i.val) % 64 = i.val := by omega
  have hgen : (g.toNat * 64 + i.val) / 64 = g.toNat := by omega
  simp only [tagOfByte, hbyte, hindex, hgen, BitVec.ofNat_toNat, BitVec.setWidth_eq]

theorem parseDone_layout (t : RelayTag) (outcome : DoneOutcome) (status : Byte) {payload : List Byte}
    (hp : payload.length ≤ 256) :
    parseDone (byteOfTag t :: outcome.byte :: status :: (be16 payload.length ++ payload))
      = some (.done { tag := t, outcome, status, payload }) := by
  simp [parseDone, be16, outcomeOfByte_byte, tagOfByte_byteOfTag, nat16_bytes payload.length (by omega),
    Config.maxPayload, hp]

theorem parseDone_of_short {body : List Byte} (h : body.length < 5) : parseDone body = none := by
  unfold parseDone
  split
  next => simp at h; omega
  next => rfl

theorem outcomeOfByte_none {b : Byte} (h : 1 < b.toNat) : outcomeOfByte b = none := by
  rw [outcomeOfByte, if_neg (ne_of_lt_toNat h 0 (by decide)), if_neg (ne_of_lt_toNat h 1 (by decide))]

/-- A DONE with a code that means nothing, whose body is not as long as it says, or with a payload too long (R181). -/
theorem parseDone_none {tag o status n1 n0 : Byte} {payload : List Byte}
    (h : 1 < o.toNat ∨ payload.length ≠ nat16 n1 n0 ∨ 256 < payload.length) :
    parseDone (tag :: o :: status :: n1 :: n0 :: payload) = none := by
  rcases h with ho | hlen | hlong
  · simp [parseDone, outcomeOfByte_none ho]
  · simp [parseDone, hlen]
  · have hnot : ¬ (payload.length = nat16 n1 n0 ∧ payload.length ≤ Config.maxPayload) :=
      fun ⟨_, hle⟩ => Nat.not_le.mpr hlong hle
    simp [parseDone, hnot]

theorem parseBody_park (n : SlotIx) (t : RelayTag) : parseBody (.slot n) 0x41 [byteOfTag t] = some (.park t) :=
  congrArg (some ∘ RxFrame.park) (tagOfByte_byteOfTag t)

/-- A kind that a Slot Link does not take (Table 11.1). -/
theorem parseBody_slot_other (n : SlotIx) {kind : Byte} (body : List Byte)
    (h : kind ∉ [doneKind, parkKind, faultKind]) : parseBody (.slot n) kind body = none := by
  simp only [List.mem_cons, List.not_mem_nil, or_false, not_or] at h
  obtain ⟨hdone, hpark, hfault⟩ := h
  exact (if_neg hdone).trans ((if_neg hpark).trans (if_neg hfault))

/-- The bodies of ABORT, PARK and FAULT are one byte. -/
theorem parseBody_of_not_one_byte (l : CtrlIx) (n : SlotIx) {body : List Byte} (h : body.length ≠ 1) :
    parseBody (.ctrl l) 0x11 body = none ∧ parseBody (.slot n) 0x41 body = none
      ∧ parseBody (.slot n) 0x42 body = none := by
  match body with
  | [] => exact ⟨rfl, rfl, rfl⟩
  | [_] => exact absurd rfl h
  | _ :: _ :: _ => exact ⟨rfl, rfl, rfl⟩

/-! ## HELLO (R167) -/

/-- The role that the partner of a link states in its HELLO. -/
def partnerRole : LinkId → Byte
  | .ctrl _ => 1
  | .slot _ => 2

theorem helloSize_frameBytes (k : LinkId) {c : Nat} (role size p1 p0 rev : Byte) (hc : c < 256) :
    helloSize k (frameBytes 0x01 c [role, size, p1, p0, rev])
      = if c ≤ 16 ∧ role = partnerRole k ∧ 1 ≤ size.toNat ∧ size.toNat ≤ 16 then some size.toNat
        else none := by
  unfold helloSize
  rw [openFrame_frameBytes 0x01 c [role, size, p1, p0, rev] hc (by simp)]
  cases k <;> exact if_congr (by simp [partnerRole, helloKind, Config.maxCreditReturn]) rfl rfl

theorem helloSize_of_wrong_role {k : LinkId} {c : Nat} {role size p1 p0 rev : Byte} (hc : c ≤ 16)
    (h : role ≠ partnerRole k) : helloSize k (frameBytes 0x01 c [role, size, p1, p0, rev]) = none := by
  rw [helloSize_frameBytes k role size p1 p0 rev (by omega)]
  exact if_neg fun ⟨_, hrole, _⟩ => h hrole

theorem helloSize_out_of_range {k : LinkId} {c : Nat} {role size p1 p0 rev : Byte} (hc : c < 256)
    (h : 16 < c ∨ size.toNat = 0 ∨ 16 < size.toNat) :
    helloSize k (frameBytes 0x01 c [role, size, p1, p0, rev]) = none := by
  rw [helloSize_frameBytes k role size p1 p0 rev hc]
  exact if_neg fun ⟨hcount, _, hlow, hhigh⟩ => by omega

theorem helloSize_of_right_role {k : LinkId} {c : Nat} {size p1 p0 rev : Byte} (hc : c ≤ 16) (hlow : 1 ≤ size.toNat)
    (hhigh : size.toNat ≤ 16) :
    helloSize k (frameBytes 0x01 c [partnerRole k, size, p1, p0, rev]) = some size.toNat := by
  rw [helloSize_frameBytes k _ size p1 p0 rev (by omega)]
  exact if_pos ⟨hc, rfl, hlow, hhigh⟩

/-! ## Table 12.1 as a whole -/

/-- Settles O13: the frames that a link keeps, HELLO, the bodies that are discarded one kind after the other, and the
place of the CRC. -/
theorem framesAreReadAsLaidOut : Obligations.FramesAreReadAsLaidOut := by
  intro l n count hc
  have kept {k : LinkId} {kind : Byte} {body : List Byte} {f : RxFrame} :
      body.length < 65536 → kind ≠ creditKind → parseBody k kind body = some f →
        checkFrame k (frameBytes kind count body) = .kept count f :=
    checkFrame_kept k kind count body f hc
  refine ⟨fun tag slotAddr ordered cls maxResp payload hm hp => ?cmd, fun tag => ?abort, fun tag a => ?resv,
    fun tag code args hargs => ?mgmt, fun t outcome status payload hp => ?done, fun t => ?park, fun code => ?fault,
    fun k s => exec_frameReceived_credit hc s,
    fun size p1 p0 rev hlow hhigh =>
      ⟨helloSize_of_right_role (k := .ctrl l) hc hlow hhigh, helloSize_of_right_role (k := .slot n) hc hlow hhigh⟩,
    fun role size p1 p0 rev c hc' h k => helloSize_out_of_range hc' h,
    fun role size p1 p0 rev =>
      ⟨helloSize_of_wrong_role (k := .ctrl l) hc, helloSize_of_wrong_role (k := .slot n) hc⟩,
    fun kind body hb => ?discarded, fun k kind c body hb hc hc' => checkFrame_count_above hb hc hc',
    fun k rest hi lo h => checkFrame_bad_crc h, fun kind body => rfl⟩
  case cmd =>
    exact kept (by simp [be16]; omega) (by decide)
      ((parseBody_cmd l _).trans (parseCmd_layout tag slotAddr cls ordered hm (by omega)))
  case abort => exact kept (by simp) (by decide) rfl
  case resv =>
    exact ⟨kept (by simp) (by decide) rfl, kept (by simp) (by decide) rfl, kept (by simp) (by decide) rfl⟩
  case mgmt => exact kept (by simp; omega) (by decide) rfl
  case done =>
    exact kept (by simp [be16]; omega) (by decide)
      ((parseBody_done n _).trans (parseDone_layout t outcome status hp))
  case park => exact kept (by simp) (by decide) (parseBody_park n t)
  case fault => exact kept (by simp) (by decide) rfl
  case discarded =>
    intro cut
    have cutAt {k : LinkId} (hkind : kind ≠ creditKind) (h : parseBody k kind body = none) : cut k :=
      checkFrame_discarded hc hb hkind h
    refine ⟨fun h => ?_, fun h => ?_, ?_, ?_, ?_, ?_, ?_, ?_, ?_, ?_, ?_, ?_⟩
    · exact cutAt (List.ne_of_not_mem_cons h) (parseBody_ctrl_other l body (List.not_mem_of_not_mem_cons h))
    · exact cutAt (List.ne_of_not_mem_cons h) (parseBody_slot_other n body (List.not_mem_of_not_mem_cons h))
    · rintro rfl hbody k
      exact checkFrame_credit_with_body hc hb hbody
    · rintro rfl h
      exact cutAt (by decide) ((parseBody_cmd l _).trans (parseCmd_of_short h))
    · rintro rfl h
      exact cutAt (by decide) (parseBody_of_not_one_byte l n h).1
    · rintro rfl h
      exact cutAt (by decide) (parseBody_resv_none l h)
    · rintro rfl h
      exact cutAt (by decide) (parseBody_mgmt_none l h)
    · rintro rfl h
      exact cutAt (by decide) ((parseBody_done n _).trans (parseDone_of_short h))
    · intro hkind h
      obtain ⟨-, hpark, hfault⟩ := parseBody_of_not_one_byte l n h
      rcases hkind with rfl | rfl
      · exact cutAt (by decide) hpark
      · exact cutAt (by decide) hfault
    · rintro tag a cls ord r1 r0 n1 n0 payload rfl rfl h
      exact cutAt (by decide) ((parseBody_cmd l _).trans (parseCmd_none h))
    · rintro tag rk a rfl rfl h
      exact cutAt (by decide) (by rw [parseBody_resv, resvOfByte_none h, Option.map_none])
    · rintro tag o status n1 n0 payload rfl rfl h
      exact cutAt (by decide) ((parseBody_done n _).trans (parseDone_none h))

end Sys2Proof.Machine
end

section
/-! PROOFS. The bytes of the entry images and of the data of the reads (Table 12.5, R21, R76, R141, R179). -/

namespace Sys2Proof.Machine

open Sys2Proof

/-! ## READ_SLOT (R141) -/

/-- The positions in use, counted over the indices, for a condition q that says "holds position p". -/
theorem positions_eq_filter (s : State) (n : SlotIx) {p : Position} {q : Exchange → Bool}
    (hq : ∀ x, q x = (x.position == some p)) :
    s.positions n p = ((List.finRange 64).filter fun i => s.exchangeIs i fun x => x.id.slot == n && q x).length
      + ((s.slot n).orphans.filter fun o => o.former == p).length := by
  have hholds : Entry.holds n p ∘ s.entry = fun i => s.exchangeIs i fun x => x.id.slot == n && q x := by
    funext i
    simp only [hq, Function.comp_apply, Entry.holds, State.exchangeIs, State.exchange]
    cases (s.entry i).live <;> rfl
  rw [positions_eq_countP, entries_toList, List.countP_map, hholds, List.countP_eq_length_filter,
    List.countP_eq_length_filter]

theorem need_ne_zero_iff (x : Exchange) : x.need ≠ 0 ↔ 0 < x.id.maxResp := by
  simp only [Exchange.need, blockCount, Config.blockBytes]
  omega

theorem exchangeIs_eq_true_iff {s : State} {i : XtIx} {q : Exchange → Bool} :
    s.exchangeIs i q = true ↔ ∃ x, s.exchange i = some x ∧ q x = true := by
  unfold State.exchangeIs
  rcases exchange_eq_none_or_some s i with hx | ⟨x, hx⟩ <;> simp [hx]

/-- A slot has a waiting candidate while it may issue and the head of its queue asks for a response (R45, R46). -/
theorem isSome_waitingCandidate (s : State) (n : SlotIx) :
    (s.waitingCandidate n).isSome = ((s.slot n).state == .online && (s.slotConfig n).enabled
      && decide (s.windowCount n < (s.slotConfig n).window)
      && (s.slot n).queue.head?.any fun i => s.exchangeIs i fun x => decide (0 < x.id.maxResp)) := by
  rw [Bool.eq_iff_iff, Option.isSome_iff_exists]
  simp only [waitingCandidate_eq_some_iff, candidate_eq_some_iff, Bool.and_eq_true, beq_iff_eq, decide_eq_true_eq,
    Option.any_eq_true, exchangeIs_eq_true_iff, need_ne_zero_iff, and_assoc, exists_and_left]

/-! ## READ_STORE (R76) -/

theorem reserveHolder_eq (s : State) (l : CtrlIx) :
    s.reserveHolder l = (List.finRange 64).find? fun i => decide (0 < (s.entry i).respBlocks (some l)) := by
  unfold State.reserveHolder Entry.respBlocks State.exchange
  congr 1
  funext i
  rcases (s.entry i).live with _ | x
  · rfl
  · rcases hr : x.respSpace with _ | ⟨blocks, _ | _⟩
    · simp [hr]
    · simp [hr]
    · by_cases hl : x.id.link = l <;> simp [hr, hl]

/-! ## READ_EXCHANGE (R21) -/

theorem exchangeView_of_free {s : State} {i : XtIx} (h : s.exchange i = none) :
    s.exchangeView i = [byteOf i.val, 0, byteOf (s.entry i).gen.toNat, boolByte (s.fenced i)] := by
  rw [State.exchangeView, h]

theorem exchangeView_of_live {s : State} {i : XtIx} {x : Exchange} (h : s.exchange i = some x) :
    s.exchangeView i = [byteOf i.val, x.phase.byte, byteOf (s.entry i).gen.toNat, boolByte (s.fenced i)]
      ++ x.id.image ++ s.phaseImage x.phase := by
  rw [State.exchangeView, h]

/-- Settles O30: the images field by field and read back; the views, with their counts, fences and holders said over
the table. -/
theorem imagesAreLaidOut : Obligations.ImagesAreLaidOut := by
  refine ⟨fun c => ⟨rfl, slotConfigOfImage_image⟩, ⟨rfl, rfl, rfl, accessOfImage_byte⟩,
    fun c => ⟨rfl, ctrlConfigOfImage_image⟩, fun p => ⟨rfl, paramsOfImage_image⟩,
    fun t => ⟨rfl, tagOfByte_byteOfTag t⟩, ?_⟩
  intro s ms pool count
  have hcount (n : SlotIx) (p : Position) : s.positions n p = count n p :=
    positions_eq_filter s n fun x => by
      rcases x with ⟨id, _ | _ | _ | ⟨_, _, _ | _⟩ | _ | _⟩ <;> cases p <;> rfl
  refine ⟨fun n => ?slot, ?store, fun i => ?exchange⟩
  case slot =>
    intro b awaited code waits
    have hwaits : (s.waitingCandidate n).isSome = waits := by
      rw [isSome_waitingCandidate, State.windowCount, hcount]
      refine congrArg (and _) ?_
      show b.queue.head?.any _ = _
      cases b.queue <;> rfl
    rw [State.slotView, hwaits, State.windowCount, State.parkedCount, hcount, hcount]
    rfl
  case store =>
    rw [State.storeView]
    simp only [reserveHolder_eq]
    refine congrArg _ (congrArg (fun f => (List.finRange 4).flatMap f) (funext fun l => ?_))
    cases (List.finRange 64).find? fun i => decide (0 < (s.entry i).respBlocks (some l)) <;> rfl
  case exchange =>
    intro fenced head
    refine ⟨fun h => ?_, fun x h => ?_⟩
    · rw [exchangeView_of_free h, fenced_eq]
      rfl
    · intro id ident record
      rw [exchangeView_of_live h, fenced_eq]
      rcases x.phase with c | ⟨_ | c, r, d⟩ | _ | _ | (a | c) | (a | c) <;> rfl

end Sys2Proof.Machine
end

section
/-! PROOFS. The reset (Section 1, R22; Section 11, R167): HARDWARE_RESET leaves the reset values, and every invariant
holds of them. -/

namespace Sys2Proof.Machine

open Sys2Proof

theorem exec_hardwareReset (strap : CtrlIx) (s : State) : exec (.hardwareReset strap) s = execHardwareReset strap s :=
  rfl

section Reset

variable (strap : CtrlIx)

theorem entry_resetWith (i : XtIx) : (State.resetWith strap).entry i = { gen := 0, live := none } :=
  Vector.getElem_replicate i.isLt

theorem exchange_resetWith (i : XtIx) : (State.resetWith strap).exchange i = none := by
  rw [State.exchange, entry_resetWith]

theorem reserve_resetWith (l : CtrlIx) : (State.resetWith strap).reserve l = 4 :=
  Vector.getElem_replicate l.isLt

theorem slotConfig_resetWith (n : SlotIx) : (State.resetWith strap).slotConfig n = SlotConfig.default :=
  Vector.getElem_replicate n.isLt

theorem access_resetWith (l : CtrlIx) (n : SlotIx) : (State.resetWith strap).access l n = .full :=
  Vector.getElem_replicate (accessIndex l n).isLt

theorem ctrlConfig_resetWith (l : CtrlIx) : (State.resetWith strap).ctrlConfig l = ⟨16, decide (l = strap)⟩ :=
  Vector.getElem_ofFn l.isLt

end Reset

/-- Settles O4: the state after a reset is the reset state with the queue of commands kept. -/
theorem hardwareResetLeavesResetValues : Obligations.HardwareResetLeavesResetValues := by
  intro strap s
  refine ⟨{ State.resetWith strap with pending := s.pending }, exec_hardwareReset strap s, rfl, rfl,
    entry_resetWith strap, rfl, rfl, rfl, rfl, rfl, reserve_resetWith strap, rfl, rfl, rfl, fun l => ?ctrl,
    fun n => ?slot, rfl, rfl, rfl, rfl, rfl, rfl, rfl, slotConfig_resetWith strap, access_resetWith strap,
    ctrlConfig_resetWith strap, rfl⟩
  case ctrl =>
    have hctrl : ({ State.resetWith strap with pending := s.pending }.ctrl l) = CtrlBlock.reset :=
      ctrl_resetWith strap l
    rw [hctrl]
    exact ⟨rfl, rfl, rfl, rfl, rfl, rfl, rfl⟩
  case slot =>
    have hslot : ({ State.resetWith strap with pending := s.pending }.slot n) = SlotBlock.reset :=
      slot_resetWith strap n
    rw [State.slotResetLow, hslot]
    exact ⟨rfl, rfl, rfl, rfl, rfl, rfl, rfl, rfl⟩

section Invariants

variable (strap : CtrlIx)

theorem exchangeIs_resetWith (i : XtIx) (p : Exchange → Bool) : (State.resetWith strap).exchangeIs i p = false := by
  rw [State.exchangeIs, exchange_resetWith]

theorem tagsOk_resetWith : (State.resetWith strap).tagsOk := by
  intro i j hi
  simp [State.tagAt, exchange_resetWith] at hi

theorem collectionsOk_resetWith : (State.resetWith strap).collectionsOk := by
  refine ⟨⟨List.nodup_nil, fun i => ?admission⟩, fun n => ?queues, fun l => ?orders⟩
  case admission =>
    rw [exchange_resetWith]
    exact iff_of_false List.not_mem_nil Bool.false_ne_true
  case queues =>
    simp only [slot_resetWith, exchangeIs_resetWith]
    exact ⟨List.nil_sublist _, fun i => iff_of_false List.not_mem_nil Bool.false_ne_true⟩
  case orders =>
    simp only [ctrl_resetWith, exchangeIs_resetWith]
    exact ⟨List.nil_sublist _, fun i => iff_of_false List.not_mem_nil Bool.false_ne_true, fun i hi =>
      absurd hi (Option.not_mem_none i), List.nodup_nil, fun i => iff_of_false List.not_mem_nil Bool.false_ne_true⟩

theorem orderLawOk_resetWith : (State.resetWith strap).orderLawOk := by
  intro l
  rw [ctrl_resetWith]
  exact List.nil_sublist _

/-- No index has any work after a reset. -/
theorem load_resetWith (n : SlotIx) (i : XtIx) : (State.resetWith strap).load n i = 0 := by
  rw [State.load, exchangeIs_resetWith, slot_resetWith]
  rfl

theorem outOfServiceOk_resetWith : (State.resetWith strap).outOfServiceOk :=
  outOfServiceOk_iff.mpr fun n _ i => load_resetWith strap n i

theorem orphansOk_resetWith : (State.resetWith strap).orphansOk :=
  orphansOk_iff.mpr fun i => by simp only [load_resetWith, Finset.sum_const_zero, Nat.zero_le]

theorem positionsOk_resetWith : (State.resetWith strap).positionsOk := by
  refine positionsOk_iff.mpr fun n p => le_of_eq_of_le (b := 0) ?_ (Nat.zero_le _)
  rw [positions_eq_sum]
  refine Finset.sum_eq_zero fun i _ => ?_
  have hload := load_eq_work (State.resetWith strap) n i
  rw [load_resetWith] at hload
  cases p <;> omega

end Invariants

/-- Settles O53, invariant by invariant. -/
theorem invariantsHoldAtReset : Obligations.InvariantsHoldAtReset := fun strap =>
  ⟨linksOk_resetWith strap, tablesOk_resetWith strap, tagsOk_resetWith strap, collectionsOk_resetWith strap,
    reservationsOk_of_lawful (lawful_resetWith strap), outOfServiceOk_resetWith strap, storesOk_resetWith strap,
    orderLawOk_resetWith strap, orphansOk_resetWith strap, positionsOk_resetWith strap⟩

end Sys2Proof.Machine
end

section
/-! PROOFS. The ending of an exchange (Section 1, R4, R15, R16; Section 5, R79), with or without an orphan: the entry,
the pools, the slot and the link that it touches. -/

namespace Sys2Proof.Machine

open Sys2Proof

/-! ## The slot side of an ending -/

/-- The state in which an ending hands its response to the Order Unit: the slot side is closed, and without an orphan a
waiting CANCEL is withdrawn (R15, R16). -/
def State.endSlotSide (s : State) (i : XtIx) (x : Exchange) (r : Response) (orphan : Bool) : State :=
  let u := s.closeSlotSide i x r.keptBlocks (if orphan then x.orphans else none)
  if orphan then u else u.withdrawSend x.id.slot (.cancel (s.relayTag i))

theorem endExchange_eq {s : State} {i : XtIx} {x : Exchange} (hx : s.exchange i = some x) (r : Response)
    (orphan : Bool) : s.endExchange i r orphan = (s.endSlotSide i x r orphan).handToOrderUnit i x r := by
  simp only [State.endExchange, hx]
  rfl

section EndSlotSide

variable (s : State) (i : XtIx) (x : Exchange) (r : Response) (orphan : Bool)

/-- Beyond the closing of the slot side there is at most a withdrawal from a Slot Send Queue. -/
theorem endSlotSide_keeps {α : Type} (g : State → α) (h : ∀ (u : State) n f, g (u.withdrawSend n f) = g u) :
    g (s.endSlotSide i x r orphan) = g (s.closeSlotSide i x r.keptBlocks (if orphan then x.orphans else none)) := by
  cases orphan with
  | false => exact h ..
  | true => rfl

theorem entries_endSlotSide : (s.endSlotSide i x r orphan).entries = s.entries :=
  (endSlotSide_keeps s i x r orphan State.entries fun _ _ _ => rfl).trans (entries_closeSlotSide ..)

theorem entry_endSlotSide (j : XtIx) : (s.endSlotSide i x r orphan).entry j = s.entry j := by
  rw [State.entry, entries_endSlotSide, State.entry]

theorem exchange_endSlotSide (j : XtIx) : (s.endSlotSide i x r orphan).exchange j = s.exchange j := by
  rw [State.exchange, entry_endSlotSide, State.exchange]

theorem ctrl_endSlotSide (l : CtrlIx) : (s.endSlotSide i x r orphan).ctrl l = s.ctrl l :=
  (endSlotSide_keeps s i x r orphan (·.ctrl l) fun _ _ _ => rfl).trans (ctrl_closeSlotSide ..)

theorem ground_endSlotSide : (s.endSlotSide i x r orphan).ground = s.ground :=
  (endSlotSide_keeps s i x r orphan State.ground ground_withdrawSend).trans (ground_closeSlotSide ..)

theorem free_endSlotSide (p : StorePool) : (s.endSlotSide i x r orphan).free p = s.free p + x.returns r.keptBlocks p :=
  (endSlotSide_keeps s i x r orphan (·.free p) fun _ _ _ => by cases p <;> rfl).trans (free_closeSlotSide ..)

/-- The slot of an exchange that ends: the exchange leaves it, and its CANCEL too where no orphan takes over. -/
theorem slot_endSlotSide (n : SlotIx) : (s.endSlotSide i x r orphan).slot n = if x.id.slot = n then
      if orphan then ((s.slot n).close i (s.relayTag i)).adopt (x.orphans.toList.map (s.orphanNow (s.relayTag i)))
      else ((s.slot n).close i (s.relayTag i)).withdraw (.cancel (s.relayTag i))
    else s.slot n := by
  cases orphan with
  | true => exact slot_closeSlotSide ..
  | false =>
    have hclose := slot_closeSlotSide s i x r.keptBlocks none
    simp only [Option.toList_none, List.map_nil, adopt_nil] at hclose
    simp only [State.endSlotSide, Bool.false_eq_true, if_false, State.withdrawSend, slot_onSlot, hclose]
    by_cases hn : x.id.slot = n
    · subst hn
      simp
    · simp [hn]

end EndSlotSide

/-! ## Withdrawals from a queue whose head is not being sent (R51) -/

theorem sending_of_sendingHead {b : SlotBlock} {g : SlotFrame} {rest : List SlotFrame} (hq : b.sendQ = g :: rest)
    (hs : b.sendingHead = true) : b.link.sending = some (.slotFrame g) := by
  unfold SlotBlock.sendingHead at hs
  rw [hq] at hs
  split at hs
  next f g' _ hf heq =>
    obtain ⟨rfl, -⟩ := List.cons.inj heq
    rw [hf, beq_iff_eq.mp hs]
  next => cases hs

/-- A frame that is not being sent is withdrawn wherever it stands. -/
theorem withdraw_of_not_sending {b : SlotBlock} {f : SlotFrame} (h : b.link.sending ≠ some (.slotFrame f)) :
    b.withdraw f = { b with sendQ := b.sendQ.filter (· != f) } := by
  obtain ⟨q, hq⟩ := exists_sendQ_withdraw b f
  have hsend := sendQ_withdraw b f
  rw [hq] at hsend ⊢
  rw [show q = b.sendQ.filter (· != f) from hsend.trans ?_]
  split
  next hs =>
    cases hb : b.sendQ with
    | nil => rfl
    | cons g rest =>
      have hg : g ≠ f := fun hgf => h (hgf ▸ sending_of_sendingHead hb hs)
      simp [hg]
  next => rfl

theorem close_of_not_sending {b : SlotBlock} {i : XtIx} {t : RelayTag}
    (hissue : b.link.sending ≠ some (.slotFrame (.issue t))) (hkeep : b.link.sending ≠ some (.slotFrame (.keep t))) :
    b.close i t = { b with
      queue := b.queue.filter (· != i)
      sendQ := b.sendQ.filter fun f => f != .issue t && f != .keep t } := by
  rw [SlotBlock.close, withdraw_of_not_sending (f := .issue t), withdraw_of_not_sending (f := .keep t)]
  · simp only [List.filter_filter, Bool.and_comm]
  · exact hkeep
  · exact hissue

/-- The whole slot after an ending, of a link that is sending no frame of the exchange. -/
theorem slot_endSlotSide_of_not_sending {s : State} {i : XtIx} {x : Exchange}
    (h : ∀ f, (s.slot x.id.slot).link.sending = some (.slotFrame f) →
      f ≠ .issue (s.relayTag i) ∧ f ≠ .keep (s.relayTag i) ∧ f ≠ .cancel (s.relayTag i)) (r : Response)
    (orphan : Bool) :
    (s.endSlotSide i x r orphan).slot x.id.slot = { s.slot x.id.slot with
      queue := (s.slot x.id.slot).queue.filter (· != i)
      sendQ := (s.slot x.id.slot).sendQ.filter fun f => f != .issue (s.relayTag i) && f != .keep (s.relayTag i)
        && (orphan || f != .cancel (s.relayTag i))
      orphans := match orphan, x.orphans with
        | true, some p => (s.slot x.id.slot).orphans ++ [s.orphanNow (s.relayTag i) p]
        | _, _ => (s.slot x.id.slot).orphans } := by
  have hclose := close_of_not_sending (i := i) (fun hs => (h _ hs).1 rfl) fun hs => (h _ hs).2.1 rfl
  rw [slot_endSlotSide, if_pos rfl]
  cases orphan with
  | true =>
    rw [if_pos rfl, hclose]
    cases x.orphans <;> simp [SlotBlock.adopt]
  | false =>
    rw [if_neg Bool.false_ne_true, hclose, withdraw_of_not_sending (f := .cancel (s.relayTag i))]
    · simp only [List.filter_filter, Bool.false_or, Bool.and_comm]
    · exact fun hs => (h _ hs).2.2 rfl

/-! ## The Order Unit's part -/

theorem pools_setPhase (s : State) (i : XtIx) (p : Phase) : (s.setPhase i p).free = s.free := by
  funext q
  rcases exchange_eq_none_or_some s i with hx | ⟨x, hx⟩
  · simp only [State.setPhase, hx]
  · rw [setPhase_of_exchange hx, free_setEntry]

theorem pools_onCtrl (s : State) (l : CtrlIx) (f : CtrlBlock → CtrlBlock) : (s.onCtrl l f).free = s.free :=
  funext fun q => free_of_stores_eq (stores_onCtrl s l f) q

theorem pools_releaseHeld (s : State) (l : CtrlIx) (i : XtIx) : (s.releaseHeld l i).free = s.free := by
  unfold State.releaseHeld
  split
  · split
    · exact (pools_onCtrl ..).trans (pools_setPhase ..)
    · rfl
  · rfl

/-- The Order Unit moves no block. -/
theorem pools_handToOrderUnit (s : State) (i : XtIx) (x : Exchange) (r : Response) :
    (s.handToOrderUnit i x r).free = s.free := by
  have hrelease (l : CtrlIx) : (s.release l i r).free = s.free := (pools_onCtrl ..).trans (pools_setPhase ..)
  have hcascade (u : State) (l : CtrlIx) : (u.cascade l).free = u.free :=
    (foldl_keeps _ State.free (fun u i => pools_releaseHeld u l i) _ _).trans (pools_onCtrl ..)
  cases ho : x.id.ordered with
  | false => rw [handToOrderUnit_of_unordered s i r ho, hrelease]
  | true =>
    by_cases hhead : s.orderHead x.id.link = some i
    · rw [handToOrderUnit_of_head r ho hhead, hcascade, State.releaseHead, pools_onCtrl, hrelease]
    · rw [handToOrderUnit_behind_head r ho hhead, pools_setPhase]

/-- The phase in which the Order Unit leaves an exchange whose response it is handed (R79). -/
def State.endedPhase (s : State) (i : XtIx) (x : Exchange) (r : Response) : Phase :=
  if x.id.ordered = true ∧ s.orderHead x.id.link ≠ some i then .held r else .released r

theorem exchange_handToOrderUnit {s : State} {i : XtIx} {x : Exchange} (hx : s.exchange i = some x) (r : Response) :
    (s.handToOrderUnit i x r).exchange i = some (x.withPhase (s.endedPhase i x r)) := by
  unfold State.endedPhase
  cases ho : x.id.ordered with
  | false =>
    rw [handToOrderUnit_of_unordered s i r ho, if_neg (by simp), exchange_release_self hx]
  | true =>
    by_cases hhead : s.orderHead x.id.link = some i
    · rw [handToOrderUnit_of_head r ho hhead, if_neg (by simp [hhead])]
      obtain ⟨y, hy, hsame⟩ := keepsAt_cascade _ x.id.link i _ (exchange_releaseHead_self hx x.id.link r)
      exact hy.trans (congrArg some (eq_of_sameOrReleased hsame rfl))
    · rw [handToOrderUnit_behind_head r ho hhead, if_pos ⟨rfl, hhead⟩, exchange_setPhase_self hx]

/-! ## The whole ending -/

theorem eq_of_unlisted_eq {b b' : CtrlBlock} (h : b'.unlisted = b.unlisted) :
    b' = { b with orderList := b'.orderList, releaseQ := b'.releaseQ } := by
  cases b
  cases b'
  cases h
  rfl

section Ending

variable {s : State} {i : XtIx} {x : Exchange} (hx : s.exchange i = some x) (r : Response) (orphan : Bool)

include hx

theorem exchange_endExchange :
    (s.endExchange i r orphan).exchange i = some (x.withPhase (s.endedPhase i x r)) := by
  rw [endExchange_eq hx, exchange_handToOrderUnit ((exchange_endSlotSide ..).trans hx), State.endedPhase,
    State.orderHead, ctrl_endSlotSide]
  rfl

theorem slot_endExchange (n : SlotIx) :
    (s.endExchange i r orphan).slot n = (s.endSlotSide i x r orphan).slot n := by
  rw [endExchange_eq hx, State.slot, slots_handToOrderUnit, State.slot]

theorem identity_ending : (s.endExchange i r orphan).identity = s.identity := by
  rw [endExchange_eq hx, identity_handToOrderUnit]
  exact identity_of_entries_eq (entries_endSlotSide ..)

theorem keepsAt_ending {j : XtIx} (h : j ≠ i) : s.KeepsAt (s.endExchange i r orphan) j := by
  rw [endExchange_eq hx]
  exact keepsAt_trans (keepsAt_of_entry_eq (entry_endSlotSide ..)) (keepsAt_handToOrderUnit _ i x r h)

theorem ctrl_endExchange_ne {l : CtrlIx} (h : l ≠ x.id.link) : (s.endExchange i r orphan).ctrl l = s.ctrl l := by
  rw [endExchange_eq hx, ctrl_handToOrderUnit_ne _ _ _ h.symm, ctrl_endSlotSide]

/-- The ending touches of its link only the Order List and the Release Queue. -/
theorem ctrl_endExchange_self : (s.endExchange i r orphan).ctrl x.id.link = { s.ctrl x.id.link with
    orderList := ((s.endExchange i r orphan).ctrl x.id.link).orderList
    releaseQ := ((s.endExchange i r orphan).ctrl x.id.link).releaseQ } := by
  have hunlisted := unlisted_handToOrderUnit (s.endSlotSide i x r orphan) i x r x.id.link
  rw [ctrl_endSlotSide, ← endExchange_eq hx] at hunlisted
  exact eq_of_unlisted_eq hunlisted

theorem free_endExchange (p : StorePool) :
    (s.endExchange i r orphan).free p = s.free p + x.returns r.keptBlocks p := by
  rw [endExchange_eq hx, pools_handToOrderUnit, free_endSlotSide]

theorem cmdFree_endExchange : (s.endExchange i r orphan).cmdFree
    = s.cmdFree + (match x.cmdSpace with | some c => c.blocks | none => 0) := by
  refine (free_endExchange hx r orphan .command).trans (congrArg (s.cmdFree + ·) ?_)
  cases hc : x.cmdSpace <;> cases hr : x.respSpace <;> simp [Exchange.returns, hc, hr] <;> rfl

/-- What the exchange does not keep of its reservation returns to the pool it came from (R4, R70). -/
theorem response_endExchange (l : Option CtrlIx) : (s.endExchange i r orphan).free (.response l)
    = s.free (.response l) + x.respSpace.elim 0 (·.blocksOf x.id.link r.keptBlocks (.response l)) := by
  rw [free_endExchange hx r orphan]
  refine congrArg (_ + ·) ?_
  cases hc : x.cmdSpace <;> simp [Exchange.returns, CmdSpace.blocksOf, hc]

end Ending

/-- Settles O21, part by part of the state. -/
theorem endingOfAnExchange : Obligations.EndingOfAnExchange := by
  intro s i x r orphan hx _ hsend t n l tag
  have hground : t.ground = s.ground := ground_endExchange ..
  simp only [State.ground, Prod.mk.injEq] at hground
  obtain ⟨hnow, hpending, horder, htables, hnotice, hwaiting⟩ := hground
  have hidentity : t.identity = s.identity := identity_ending hx r orphan
  refine ⟨congrArg Prod.fst (congrFun hidentity i), ?phase, cmdFree_endExchange hx r orphan, ?pools, ?slot,
    fun m hm => ?others, fun l' hl' => ctrl_endExchange_ne hx r orphan hl', ctrl_endExchange_self hx r orphan,
    fun j hj => ⟨congrArg Prod.fst (congrFun hidentity j), fun hfree => ?free, keepsAt_ending hx r orphan hj⟩, horder,
    hnotice, hwaiting, htables, hnow, hpending⟩
  case phase =>
    exact exchange_endExchange hx r orphan
  case pools =>
    have hpool := response_endExchange hx r orphan
    cases hr : x.respSpace with
    | none =>
      simp only [hr, Option.elim_none, Nat.add_zero] at hpool
      exact ⟨hpool none, fun l' => hpool (some l')⟩
    | some sp =>
      simp only [hr, Option.elim_some] at hpool
      refine ⟨hpool none, fun l' => (hpool (some l')).trans ?_⟩
      simp only [RespSpace.blocksOf, State.free, and_comm, eq_comm (a := l')]
      rfl
  case slot =>
    exact (slot_endExchange hx r orphan n).trans (slot_endSlotSide_of_not_sending hsend r orphan)
  case others =>
    rw [slot_endExchange hx, slot_endSlotSide, if_neg (Ne.symm hm)]
  case free =>
    rw [State.exchange, entry_of_identity_eq (congrFun hidentity j) hfree]
    exact hfree

end Sys2Proof.Machine
end

section
/-! PROOFS. Every operation of an event is made of few changes of the lists of exchanges: an admission, an issue, a
change of the position that a card holds, an ending, a RESP that has left, a teardown and a RELAY_RESTART. A property of
the lists that these changes keep is kept by every step. -/

namespace Sys2Proof.Machine

open Sys2Proof

/-! ## The books of a state -/

/-- The Exchange Table and the lists that the part keeps of it: the admission order, the Slot Queues, and the Order List
and the Release Queue of each link. -/
def State.books (s : State) :
    Vector Entry 64 × List XtIx × (SlotIx → List XtIx) × (CtrlIx → List XtIx × List XtIx) :=
  (s.entries, s.admissionOrder, fun n => (s.slot n).queue, fun l => (s.ctrl l).lists)

theorem exchange_of_books_eq {s t : State} (h : t.books = s.books) (i : XtIx) : t.exchange i = s.exchange i := by
  have hentries : t.entries = s.entries := congrArg Prod.fst h
  rw [State.exchange, State.entry, hentries, State.exchange, State.entry]

theorem admissionOrder_of_books_eq {s t : State} (h : t.books = s.books) : t.admissionOrder = s.admissionOrder :=
  congrArg (fun b => b.2.1) h

theorem queue_of_books_eq {s t : State} (h : t.books = s.books) (n : SlotIx) : (t.slot n).queue = (s.slot n).queue :=
  congrFun (congrArg (fun b => b.2.2.1) h) n

theorem lists_of_books_eq {s t : State} (h : t.books = s.books) (l : CtrlIx) : (t.ctrl l).lists = (s.ctrl l).lists :=
  congrFun (congrArg (fun b => b.2.2.2) h) l

theorem books_of_core_eq {s t : State} (h : t.core = s.core) : t.books = s.books := by
  have horder : t.admissionOrder = s.admissionOrder := congrArg (fun c => c.2.1) h
  have hlists : (fun l => (t.ctrl l).lists) = fun l => (s.ctrl l).lists := congrArg (fun c => c.2.2.2.2.1) h
  have hqueues : (fun n => (t.slot n).queue) = fun n => (s.slot n).queue := funext (queue_of_core_eq h)
  rw [State.books, entries_of_core_eq h, horder, hqueues, hlists, State.books]

/-- A change of a slot beside its Slot Queue. -/
theorem books_onSlot {s : State} {n : SlotIx} {f : SlotBlock → SlotBlock}
    (h : (f (s.slot n)).queue = (s.slot n).queue) : (s.onSlot n f).books = s.books := by
  have hqueues : (fun m => ((s.onSlot n f).slot m).queue) = fun m => (s.slot m).queue := by
    funext m
    rw [slot_onSlot]
    split
    next hm => exact hm ▸ h
    next => rfl
  simp only [State.books, hqueues]
  rfl

@[simp] theorem books_onResv (s : State) (n : SlotIx) (f : Reservation → Reservation) :
    (s.onResv n f).books = s.books := books_onSlot rfl

@[simp] theorem books_setSlotState (s : State) (n : SlotIx) (st : SlotState) :
    (s.setSlotState n st).books = s.books := books_onSlot rfl

@[simp] theorem books_notify (s : State) (l : CtrlIx) (k : NoticeKind) (a : Byte) (c : NoticeCause) (d : List Byte) :
    (s.notify l k a c d).books = s.books := books_of_core_eq (core_notify ..)

@[simp] theorem books_notifyManager (s : State) (k : NoticeKind) (a : Byte) (c : NoticeCause) (d : List Byte) :
    (s.notifyManager k a c d).books = s.books := books_of_core_eq (core_notifyManager ..)

@[simp] theorem books_answerResv (s : State) (l : CtrlIx) (tag : Byte) (r : ReplyResult) (d : List Byte) :
    (s.answerResv l tag r d).books = s.books := books_of_core_eq (core_answerResv ..)

@[simp] theorem books_queueSend (s : State) (n : SlotIx) (f : SlotFrame) : (s.queueSend n f).books = s.books :=
  books_of_core_eq (core_queueSend ..)

@[simp] theorem books_withdrawSend (s : State) (n : SlotIx) (f : SlotFrame) : (s.withdrawSend n f).books = s.books :=
  books_of_core_eq (core_withdrawSend ..)

@[simp] theorem books_queueCancel (s : State) (t : RelayTag) (x : Exchange) : (s.queueCancel t x).books = s.books :=
  books_of_core_eq (core_queueCancel ..)

@[simp] theorem books_removeOrphan (s : State) (n : SlotIx) (t : RelayTag) : (s.removeOrphan n t).books = s.books :=
  (books_withdrawSend ..).trans (books_onSlot rfl)

@[simp] theorem books_startLease (s : State) (n : SlotIx) : (s.startLease n).books = s.books := books_onResv ..

@[simp] theorem books_makeHolder (s : State) (n : SlotIx) (l : CtrlIx) : (s.makeHolder n l).books = s.books := by
  rw [makeHolder_eq, books_onResv]

@[simp] theorem books_clearReservation (s : State) (n : SlotIx) (cause : NoticeCause) :
    (s.clearReservation n cause).books = s.books := by
  have hholder : (s.tellHolder n cause).books = s.books := by
    unfold State.tellHolder
    split
    · exact books_notify ..
    · rfl
  rw [clearReservation_eq, books_onResv]
  exact (foldl_keeps _ State.books (fun u l => books_notify u l _ _ _ _) _ _).trans hholder

@[simp] theorem books_startPulse (s : State) (n : SlotIx) : (s.startPulse n).books = s.books := books_setSlotState ..

@[simp] theorem books_escalate (s : State) (n : SlotIx) : (s.escalate n).books = s.books := by
  rw [State.escalate, books_clearReservation, books_notifyManager, books_startPulse]

@[simp] theorem books_slotLinkUp (s : State) (n : SlotIx) : (s.slotLinkUp n).books = s.books := by
  unfold State.slotLinkUp
  split
  · rw [books_notifyManager, books_setSlotState]
  · rfl

@[simp] theorem books_acknowledge (s : State) (id : Byte) (n : SlotIx) : (s.acknowledge id n).books = s.books := by
  unfold State.acknowledge
  split
  · exact books_setSlotState ..
  · rfl

@[simp] theorem books_clearSlot (s : State) (n : SlotIx) : (s.clearSlot n).books = s.books := by
  unfold State.clearSlot
  split
  · rw [books_notifyManager, books_setSlotState]
  · exact books_setSlotState ..

/-! ## Properties that the changes keep -/

theorem isQueued_iff {x : Exchange} : x.isQueued = true ↔ ∃ c, x.phase = .queued c := by
  rcases x with ⟨id, phase⟩
  cases phase <;> simp [Exchange.isQueued]

theorem isEnded_of_isQueued {x : Exchange} (h : x.isQueued = true) : x.isEnded = false := by
  obtain ⟨c, hp⟩ := isQueued_iff.mp h
  simp [Exchange.isEnded, hp]

/-- The property holds after a reset, depends on the books only, and each change of the books keeps it. -/
structure KeptByChanges (P : State → Prop) : Prop where
  books : ∀ {s t : State}, t.books = s.books → P s → P t
  reset : ∀ strap, P (State.resetWith strap)
  admitCmd : ∀ {s : State} {l c n i}, P s → s.admissionCheck l c = .ok (n, i) → P (s.admitCmd l c n i)
  issueExchange : ∀ {s : State} (i pool), P s → P (s.issueExchange i pool)
  reposition : ∀ {s : State} {i x ph}, P s → s.exchange i = some x → x.position.isSome = true →
    (x.withPhase ph).position.isSome = true → P (s.setPhase i ph)
  endExchange : ∀ {s : State} {i x} (r orphan), P s → s.exchange i = some x → x.isEnded = false →
    P (s.endExchange i r orphan)
  respSent : ∀ {s : State} (l), P s → P (s.respSent l)
  tornDown : ∀ {s : State} (l), P s → P (s.tornDown l)
  restartAll : ∀ {s : State}, P s → P s.restartAll

namespace KeptByChanges

variable {P : State → Prop} (h : KeptByChanges P) {s : State} (hs : P s)

include h hs

/-! ## Frames of a card, ABORT and deadlines -/

theorem markSent (i : XtIx) : P (s.markSent i) := by
  unfold State.markSent
  split
  next x hx =>
    split
    next c sp d hp => exact h.reposition (h.books (s := s) rfl hs) hx (by simp [Exchange.position, hp]) rfl
    next => exact hs
  next => exact hs

theorem takePark (n : SlotIx) (t : RelayTag) : P (s.takePark n t) := by
  by_cases hsent : ∃ x sp d, s.exchange t.index = some x ∧ x.phase = .active none sp d ∧ s.tagNames n t x = true
  case neg =>
    rw [takePark_discarded fun x sp d hx hp => Bool.eq_false_iff.mpr fun hn => hsent ⟨x, sp, d, hx, hp, hn⟩]
    exact hs
  obtain ⟨x, sp, d, hx, hp, hn⟩ := hsent
  rw [takePark_of_sent hx hp hn]
  split
  · exact h.books (books_withdrawSend ..) (h.reposition hs hx (by simp [Exchange.position, hp]) rfl)
  · split
    · exact hs
    · exact h.books (books_queueSend ..) hs

theorem takeDone (n : SlotIx) (d : DoneFrame) : P (s.takeDone n d) := by
  cases hentry : s.doneEntry n d.tag with
  | some x =>
    obtain ⟨hx, -, hpos⟩ := doneEntry_eq_some_iff.mp hentry
    obtain ⟨hlive, hspace⟩ := position_isSome_iff.mp hpos
    obtain ⟨sp, hsp⟩ := Option.isSome_iff_exists.mp hspace
    rw [takeDone_of_entry hentry hsp]
    exact h.endExchange _ _ hs hx hlive
  | none =>
    by_cases ho : (s.slot n).orphan d.tag = none
    · rw [takeDone_discarded hentry ho]
      exact hs
    · rw [takeDone_of_orphan hentry ho]
      exact h.books (books_removeOrphan ..) hs

theorem toCancelling {i : XtIx} {x : Exchange} (hx : s.exchange i = some x) (hpos : x.position.isSome = true)
    (sp : RespSpace) (d : Nat) (former : Position) : P (s.toCancelling i x sp d former) :=
  h.books ((books_withdrawSend ..).trans (books_queueSend ..)) (h.reposition hs hx hpos rfl)

theorem abortEntry (i : XtIx) : P (s.abortEntry i).1 := by
  unfold State.abortEntry
  split
  next => exact hs
  next x hx =>
    split
    next hp => exact h.endExchange _ _ hs hx (by simp [Exchange.isEnded, hp])
    next hp => exact h.endExchange _ _ hs hx (by simp [Exchange.isEnded, hp])
    next hp => exact h.toCancelling hs hx (by simp [Exchange.position, hp]) _ _ _
    next hp => exact h.toCancelling hs hx (by simp [Exchange.position, hp]) _ _ _
    next => exact hs
    next => exact hs
    next => exact hs

theorem takeDeadline (i : XtIx) : P (s.takeDeadline i) := by
  unfold State.takeDeadline
  split
  next => exact hs
  next x hx =>
    have hcancel := h.books (books_queueCancel s (s.relayTag i) x) hs
    have hx' := (exchange_of_books_eq (books_queueCancel s (s.relayTag i) x) i).trans hx
    split
    next hp => exact h.endExchange _ _ hcancel hx' (by simp [Exchange.isEnded, hp])
    next hp => exact h.endExchange _ _ hcancel hx' (by simp [Exchange.isEnded, hp])
    next hp => exact h.endExchange _ _ hs hx (by simp [Exchange.isEnded, hp])
    next => exact hs
    next => exact hs
    next => exact hs

/-! ## Slots out of service -/

theorem endForSlot (n : SlotIx) (code : RelayCode) (i : XtIx) : P (s.endForSlot n code i) := by
  unfold State.endForSlot
  split
  next x hx =>
    split
    next =>
      split
      next hp => exact h.endExchange _ _ hs hx (by simp [Exchange.isEnded, hp])
      next hp => exact h.endExchange _ _ hs hx (by simp [Exchange.isEnded, hp])
      next hp => exact h.endExchange _ _ hs hx (by simp [Exchange.isEnded, hp])
      next hp => exact h.endExchange _ _ hs hx (by simp [Exchange.isEnded, hp])
      next => exact hs
      next => exact hs
    next => exact hs
  next => exact hs

theorem endSlotWork (n : SlotIx) (code : RelayCode) : P (s.endSlotWork n code) :=
  h.books (books_onSlot rfl) (List.foldlRecOn _ _ hs fun _ hu i _ => h.endForSlot hu n code i)

theorem faultSlot (n : SlotIx) (cause : LastFault) : P (s.faultSlot n cause) := by
  unfold State.faultSlot
  split
  · exact h.books ((books_notifyManager ..).trans (books_onSlot rfl)) (h.endSlotWork hs n .slotFault)
  · exact hs

theorem takeOrphanExpiry (n : SlotIx) (t : RelayTag) : P (s.takeOrphanExpiry n t) := by
  unfold State.takeOrphanExpiry
  split
  · exact h.faultSlot (h.books (books_removeOrphan ..) hs) n .orphanExpired
  · exact hs

theorem resetSlot (n : SlotIx) : P (s.resetSlot n) := by
  have hpulse : ∀ u : State, P u → P ((u.startPulse n).clearReservation n .slotReset) := fun u hu =>
    h.books ((books_clearReservation ..).trans (books_startPulse ..)) hu
  unfold State.resetSlot
  split
  · exact hpulse _ (h.endSlotWork hs n .slotReset)
  · exact hpulse _ hs

/-! ## Reservations -/

theorem preempt (n : SlotIx) (l : CtrlIx) : P (s.preempt n l) := by
  refine List.foldlRecOn _ _ hs fun u hu i _ => ?_
  by_cases hp : ∃ x, u.exchange i = some x ∧ x.preemptedBy l
  · obtain ⟨x, hx, hpre⟩ := hp
    rw [preemptOne_of_preempted hx hpre]
    obtain ⟨-, -, hq⟩ := hpre
    exact h.endExchange _ _ hu hx (isEnded_of_isQueued hq)
  · rw [preemptOne_of_not_preempted fun x hx hpre => hp ⟨x, hx, hpre⟩]
    exact hu

theorem handOverTo (n : SlotIx) (ws : List CtrlIx) : P (s.handOverTo n ws) := by
  induction ws generalizing s with
  | nil => exact h.books (books_onResv ..) hs
  | cons w ws ih =>
    by_cases hfull : s.access w n = .full
    · rw [handOverTo_of_access hfull]
      exact h.preempt (h.books ((books_notify ..).trans ((books_makeHolder ..).trans (books_onResv ..))) hs) n w
    · rw [handOverTo_of_no_access hfull]
      exact ih (h.books (books_notify ..) hs)

theorem handOver (n : SlotIx) : P (s.handOver n) := by
  rw [handOver_eq]
  exact h.handOverTo (h.books (books_onResv ..) hs) n _

theorem dropLink (l : CtrlIx) : P (s.dropLink l) := by
  refine List.foldlRecOn _ _ hs fun u hu n _ => ?_
  have hleft := h.books (books_onResv u n fun r => { r with waiting := r.waiting.filter (· != l) }) hu
  unfold State.dropLinkAt
  dsimp only
  split
  · exact h.handOver hleft n
  · exact hleft

theorem departCtrl (l : CtrlIx) (cause : DepartCause) : P (s.departCtrl l cause) := by
  rw [departCtrl_eq]
  exact h.books (books_of_core_eq (core_tellDeparture _ l cause)) (h.dropLink (h.tornDown l hs) l)

theorem takeTake (l : CtrlIx) (tag : Byte) (n : SlotIx) : P (s.takeTake l tag n) := by
  by_cases hfull : s.access l n = .full
  case neg =>
    rw [takeTake_without_access tag hfull]
    exact h.books (books_answerResv ..) hs
  cases hholder : (s.slot n).resv.holder with
  | none =>
    rw [takeTake_of_free tag hfull hholder]
    exact h.preempt (h.books ((books_answerResv ..).trans (books_makeHolder ..)) hs) n l
  | some k =>
    by_cases hl : k = l
    · rw [takeTake_of_holder tag hfull (hl ▸ hholder)]
      exact h.books ((books_answerResv ..).trans (books_startLease ..)) hs
    · by_cases hw : l ∈ (s.slot n).resv.waiting
      · rw [takeTake_of_waiter tag hfull hholder hl hw]
        exact h.books (books_answerResv ..) hs
      · rw [takeTake_of_stranger tag hfull hholder hl hw]
        exact h.books ((books_answerResv ..).trans (books_onResv ..)) hs

theorem takeRenew (l : CtrlIx) (tag : Byte) (n : SlotIx) : P (s.takeRenew l tag n) := by
  by_cases hholder : (s.slot n).resv.holder = some l
  · rw [takeRenew_of_holder tag hholder]
    exact h.books ((books_answerResv ..).trans (books_startLease ..)) hs
  · rw [takeRenew_of_not_holder tag hholder]
    exact h.books (books_answerResv ..) hs

theorem takeDrop (l : CtrlIx) (tag : Byte) (n : SlotIx) : P (s.takeDrop l tag n) := by
  by_cases hholder : (s.slot n).resv.holder = some l
  · rw [takeDrop_of_holder tag hholder]
    exact h.handOver (h.books (books_answerResv ..) hs) n
  by_cases hw : l ∈ (s.slot n).resv.waiting
  · rw [takeDrop_of_waiter tag hholder hw]
    exact h.books ((books_answerResv ..).trans (books_onResv ..)) hs
  · rw [takeDrop_of_stranger tag hholder hw]
    exact h.books (books_answerResv ..) hs

theorem revokeLease (n : SlotIx) : P (s.revokeLease n) := by
  unfold State.revokeLease
  split
  · exact h.handOver (h.books (books_notify ..) hs) n
  · exact hs

/-! ## ACTIVATE -/

theorem disableSlot (old : Bank) (n : SlotIx) : P (s.disableSlot old n) := by
  unfold State.disableSlot
  split
  · refine List.foldlRecOn _ _ hs fun u hu i _ => ?_
    unfold State.disableOne
    split
    next x hx =>
      split
      next hq => exact h.endExchange _ _ hu hx (isEnded_of_isQueued hq)
      next => exact hu
    next => exact hu
  · exact hs

theorem activateNow (m : CtrlIx) : P (s.activateNow m) := by
  have hcopied : P { s with active := s.staged, epoch := s.epoch + 1 } := h.books (s := s) rfl hs
  exact List.foldlRecOn _ _ (List.foldlRecOn _ _ hcopied fun _ hu n _ => h.disableSlot hu s.active n)
    fun u hu l _ => h.books (books_of_core_eq (core_announce u m l)) hu

omit hs

/-- What the changes keep, the operations keep. -/
theorem keptByOperations : KeptByOperations P where
  core := fun hcore => h.books (books_of_core_eq hcore)
  reset := h.reset
  admitCmd := h.admitCmd
  issueExchange := h.issueExchange
  markSent := fun i hs => h.markSent hs i
  respSent := h.respSent
  takePark := fun n t hs => h.takePark hs n t
  takeDone := fun n d hs => h.takeDone hs n d
  abortEntry := fun i hs => h.abortEntry hs i
  takeDeadline := fun i hs => h.takeDeadline hs i
  takeOrphanExpiry := fun n t hs => h.takeOrphanExpiry hs n t
  departCtrl := fun l cause hs => h.departCtrl hs l cause
  restartAll := h.restartAll
  takeTake := fun l tag n hs => h.takeTake hs l tag n
  takeRenew := fun l tag n hs => h.takeRenew hs l tag n
  takeDrop := fun l tag n hs => h.takeDrop hs l tag n
  revokeLease := fun n hs => h.revokeLease hs n
  slotLinkUp := fun n => h.books (books_slotLinkUp _ n)
  faultSlot := fun n cause hs => h.faultSlot hs n cause
  escalate := fun n => h.books (books_escalate _ n)
  resetSlot := fun n hs => h.resetSlot hs n
  endPulse := fun hs _ => h.books (books_setSlotState ..) hs
  acknowledge := fun id n => h.books (books_acknowledge _ id n)
  clearSlot := fun hs _ => h.books (books_clearSlot ..) hs
  activateNow := fun m hs => h.activateNow hs m

end KeptByChanges

end Sys2Proof.Machine
end

section
/-! PROOFS. Every step keeps the controller tags of one link unique among its live entries (Section 1, R10): an
admission has found the tag of its CMD not in use (R34), and no other event gives an entry a tag that it had not. -/

namespace Sys2Proof.Machine

open Sys2Proof

/-! ## Tags and identities -/

theorem tagAt_eq_identity (s : State) (i : XtIx) : s.tagAt i = (s.identity i).2.map fun id => (id.link, id.tag) := by
  simp only [State.tagAt, State.identity, Option.map_map]
  rfl

theorem tagAt_of_identity_eq {s t : State} (h : t.identity = s.identity) (i : XtIx) : t.tagAt i = s.tagAt i := by
  rw [tagAt_eq_identity, h, ← tagAt_eq_identity]

/-- The tags stay unique where no entry has a new one. -/
theorem tagsOk_of_fewer {s t : State} (hs : s.tagsOk) (h : ∀ i, t.tagAt i = s.tagAt i ∨ t.tagAt i = none) :
    t.tagsOk := by
  intro i j hi hij
  rcases h i with hi' | hi'
  · rcases h j with hj' | hj'
    · exact hs i j (hi' ▸ hi) (hi'.symm.trans (hij.trans hj'))
    · rw [hij, hj'] at hi
      cases hi
  · rw [hi'] at hi
    cases hi

theorem tagsOk_of_identity_eq {s t : State} (hs : s.tagsOk) (h : t.identity = s.identity) : t.tagsOk :=
  tagsOk_of_fewer hs fun i => .inl (tagAt_of_identity_eq h i)

/-! ## Changes that keep every identity -/

theorem identity_setPhase (s : State) (i : XtIx) (ph : Phase) : (s.setPhase i ph).identity = s.identity :=
  congrArg Prod.fst (besideOrders_setPhase s 0 i ph)

theorem identity_issueExchange (s : State) (i : XtIx) (pool : Pool) :
    (s.issueExchange i pool).identity = s.identity := by
  unfold State.issueExchange
  split
  next x _ =>
    split
    · exact (identity_setPhase ..).trans (identity_of_entries_eq (entries_takeResp ..))
    · rfl
  next => rfl

theorem identity_restartOne (s : State) (i : XtIx) : (s.restartOne i).identity = s.identity := by
  funext j
  by_cases hj : j = i
  · subst hj
    simp only [State.identity, State.exchange, entry_restartOne_self, Option.map_map]
    rfl
  · exact identity_of_entry_eq (entry_restartOne_ne s hj)

theorem identity_restartAll (s : State) : s.restartAll.identity = s.identity :=
  (identity_of_entries_eq (stores_eq_iff.mp (stores_restartAll s)).1).trans
    (foldl_keeps _ State.identity identity_restartOne _ s)

/-! ## Entries that become FREE, and an admission -/

theorem tagsOk_of_freed {s t : State} {i : XtIx} (hs : s.tagsOk) (hfree : t.exchange i = none)
    (hothers : ∀ j, j ≠ i → t.entry j = s.entry j) : t.tagsOk := by
  refine tagsOk_of_fewer hs fun j => ?_
  by_cases hj : j = i
  · exact .inr (by rw [hj, State.tagAt, hfree, Option.map_none])
  · exact .inl (by rw [State.tagAt, State.exchange, hothers j hj, State.tagAt, State.exchange])

theorem tagsOk_freeEntry {s : State} (hs : s.tagsOk) (i : XtIx) (x : Exchange) (o : Option Position) :
    (s.freeEntry i x o).tagsOk :=
  tagsOk_of_freed hs (by rw [State.exchange, entry_freeEntry_self]) fun _ hj => entry_freeEntry_ne s x o hj

theorem tagsOk_respSent {s : State} (hs : s.tagsOk) (l : CtrlIx) : (s.respSent l).tagsOk := by
  have hended : (s.onCtrl l (·.onLink (·.endSend))).tagsOk := hs
  unfold State.respSent
  dsimp only
  split
  · split
    · exact tagsOk_freeEntry hended _ _ _
    · exact hended
  · exact hended

theorem tagsOk_tornDown {s : State} (hs : s.tagsOk) (l : CtrlIx) : (s.tornDown l).tagsOk := by
  have hleft : (s.leftUp l).tagsOk := hs
  have htorn : ((s.leftUp l).tearDownList l s.admissionOrder).tagsOk := by
    refine List.foldlRecOn _ _ hleft fun u hu i _ => ?_
    unfold State.tearDownOne
    split
    · split
      · exact tagsOk_freeEntry (tagsOk_of_identity_eq hu
          (identity_of_entries_eq (stores_eq_iff.mp (stores_queueCancel ..)).1)) _ _ _
      · exact hu
    · exact hu
  exact htorn

/-- A CMD is admitted only with a tag that no live entry of its link has (R34). -/
theorem tagAt_ne_of_admissionCheck {s : State} {l : CtrlIx} {c : CmdFrame} {n : SlotIx} {i : XtIx}
    (h : s.admissionCheck l c = .ok (n, i)) (j : XtIx) : s.tagAt j ≠ some (l, c.tag) := by
  have hpassed := passed_of_admissionCheck h
    ((List.finRange 64).any fun i => s.tagAt i == some (l, c.tag), .tagInUse) (by simp [State.tableChecks])
  simpa using List.any_eq_false.mp hpassed j (List.mem_finRange j)

theorem tagsOk_admitCmd {s : State} (hs : s.tagsOk) {l : CtrlIx} {c : CmdFrame} {n : SlotIx} {i : XtIx}
    (h : s.admissionCheck l c = .ok (n, i)) : (s.admitCmd l c n i).tagsOk := by
  have hself : (s.admitCmd l c n i).tagAt i = some (l, c.tag) := by
    rw [State.tagAt, exchange_admitCmd_self]
    rfl
  have hothers : ∀ j, j ≠ i → (s.admitCmd l c n i).tagAt j = s.tagAt j := fun j hj => by
    rw [State.tagAt, exchange_admitCmd_ne s l c n hj, State.tagAt]
  have hnew := tagAt_ne_of_admissionCheck h
  intro j k hj hjk
  by_cases hji : j = i <;> by_cases hki : k = i
  · rw [hji, hki]
  · rw [hji, hself, hothers k hki] at hjk
    exact absurd hjk.symm (hnew k)
  · rw [hki, hself, hothers j hji] at hjk
    exact absurd hjk (hnew j)
  · rw [hothers j hji, hothers k hki] at hjk
    exact hs j k (hothers j hji ▸ hj) hjk

/-! ## Every step -/

theorem tagsOk_keptByChanges : KeptByChanges State.tagsOk where
  books := fun h hs => tagsOk_of_fewer hs fun i => .inl (by rw [State.tagAt, exchange_of_books_eq h, State.tagAt])
  reset := tagsOk_resetWith
  admitCmd := fun hs h => tagsOk_admitCmd hs h
  issueExchange := fun i pool hs => tagsOk_of_identity_eq hs (identity_issueExchange _ i pool)
  reposition := fun hs _ _ _ => tagsOk_of_identity_eq hs (identity_setPhase ..)
  endExchange := fun r orphan hs hx _ => tagsOk_of_identity_eq hs (identity_ending hx r orphan)
  respSent := fun l hs => tagsOk_respSent hs l
  tornDown := fun l hs => tagsOk_tornDown hs l
  restartAll := fun hs => tagsOk_of_identity_eq hs (identity_restartAll _)

/-- Settles O56: every operation of an event keeps the tags unique. -/
theorem stepKeepsTagsUnique : Obligations.StepKeepsTagsUnique := fun _ _ hs hstep =>
  tagsOk_keptByChanges.keptByOperations.step hs hstep

end Sys2Proof.Machine
end

section
/-! PROOFS. What the collections hold (Section 1, R14; Section 4, R41; Section 5, R77, R78, R83, R84). The Slot Queues
and the Order Lists are the admission order filtered, and each change of the collections is the leaving of some
entries. -/

namespace Sys2Proof.Machine

open Sys2Proof

/-! ## The exchange at an index -/

theorem exchangeIs_of_exchange {s : State} {i : XtIx} {x : Exchange} (hx : s.exchange i = some x)
    (p : Exchange → Bool) : s.exchangeIs i p = p x := by
  rw [State.exchangeIs, hx]

theorem exchangeIs_of_free {s : State} {i : XtIx} (hx : s.exchange i = none) (p : Exchange → Bool) :
    s.exchangeIs i p = false := by
  rw [State.exchangeIs, hx]

theorem exchangeIs_of_exchange_eq {s t : State} {i : XtIx} (h : t.exchange i = s.exchange i) (p : Exchange → Bool) :
    t.exchangeIs i p = s.exchangeIs i p := by
  rw [State.exchangeIs, h, State.exchangeIs]

theorem exchangeIs_of_entry_eq {s t : State} {i : XtIx} (h : t.entry i = s.entry i) (p : Exchange → Bool) :
    t.exchangeIs i p = s.exchangeIs i p :=
  exchangeIs_of_exchange_eq (by rw [State.exchange, h, State.exchange]) p

theorem exchangeIs_of_identity_eq {s t : State} (h : t.identity = s.identity) (i : XtIx) (p : Identity → Bool) :
    t.exchangeIs i (fun x => p x.id) = s.exchangeIs i fun x => p x.id := by
  rcases exchange_eq_none_or_some s i with hx | ⟨x, hx⟩
  · exact exchangeIs_of_entry_eq (entry_of_identity_eq (congrFun h i) hx) _
  · obtain ⟨y, hy, hid, -⟩ := exists_exchange_of_identity_eq (congrFun h i) hx
    rw [exchangeIs_of_exchange hx, exchangeIs_of_exchange hy, hid]

/-- The exchange at index i is of link l. -/
def State.linkedTo (s : State) (l : CtrlIx) (i : XtIx) : Bool := s.exchangeIs i fun x => x.id.link == l

/-- The exchange at index i is ordered. -/
def State.orderedAt (s : State) (i : XtIx) : Bool := s.exchangeIs i fun x => x.id.ordered

/-- The exchange at index i is RELEASED. -/
def State.releasedAt (s : State) (i : XtIx) : Bool := s.exchangeIs i Exchange.isReleased

/-- The exchange at index i is QUEUED at slot n. -/
def State.queuedAt (s : State) (n : SlotIx) (i : XtIx) : Bool := s.exchangeIs i fun x => x.id.slot == n && x.isQueued

/-- The exchange at index i is an ordered one of link l that is not yet released. -/
def State.ordersOn (s : State) (l : CtrlIx) (i : XtIx) : Bool := s.linkedTo l i && s.orderedAt i && !s.releasedAt i

section Predicates

variable (s : State) (l : CtrlIx) (i : XtIx)

theorem ordersOn_eq : s.ordersOn l i
    = s.exchangeIs i fun x => x.id.link == l && x.id.ordered && !x.isReleased := by
  unfold State.ordersOn State.linkedTo State.orderedAt State.releasedAt State.exchangeIs
  split <;> rfl

theorem releasedOn_eq : (s.linkedTo l i && s.releasedAt i)
    = s.exchangeIs i fun x => x.id.link == l && x.isReleased := by
  unfold State.linkedTo State.releasedAt State.exchangeIs
  split <;> rfl

theorem isHeldAt_eq : s.isHeldAt i = s.exchangeIs i Exchange.isHeld := rfl

variable {s l i}

theorem eq_of_linkedTo {m : CtrlIx} (hl : s.linkedTo l i = true) (hm : s.linkedTo m i = true) : m = l := by
  obtain ⟨x, hx, hxl⟩ := exchangeIs_eq_true_iff.mp hl
  rw [State.linkedTo, exchangeIs_of_exchange hx] at hm
  exact (beq_iff_eq.mp hm).symm.trans (beq_iff_eq.mp hxl)

/-- Entries of one link, seen from each link. -/
theorem filter_linkedTo {go : List XtIx} (h : ∀ j ∈ go, s.linkedTo l j = true) (m : CtrlIx) :
    go.filter (s.linkedTo m) = if l = m then go else [] := by
  split
  next hm => exact List.filter_eq_self.mpr fun j hj => hm ▸ h j hj
  next hm => exact List.filter_eq_nil_iff.mpr fun j hj hjm => hm (eq_of_linkedTo (h j hj) hjm).symm

end Predicates

/-! ## Lists that are filtered -/

/-- A list in the order of another one without repetitions is that one filtered. -/
theorem eq_filter_iff {adm list : List XtIx} {p : XtIx → Bool} (hadm : adm.Nodup) (hp : ∀ i, p i = true → i ∈ adm) :
    list = adm.filter p ↔ list.Sublist adm ∧ ∀ i, i ∈ list ↔ p i = true := by
  constructor
  · rintro rfl
    exact ⟨List.filter_sublist, fun i => by rw [List.mem_filter, and_iff_right_of_imp (hp i)]⟩
  · rintro ⟨hsub, hmem⟩
    have hself : list.filter p = list := List.filter_eq_self.mpr fun i hi => (hmem i).mp hi
    refine List.Sublist.eq_of_length (hself ▸ hsub.filter p) (List.Perm.length_eq ?_)
    refine (List.perm_ext_iff_of_nodup (hadm.sublist hsub) (hadm.filter p)).mpr fun i => ?_
    rw [hmem, List.mem_filter, and_iff_right_of_imp (hp i)]

/-- What stands behind the elements taken from a list without repetitions is the list without them. -/
theorem eq_filter_of_append {list front rest go : List XtIx} (h : list = front ++ rest) (hlist : list.Nodup)
    (hfront : ∀ j ∈ front, j ∈ go) (hgo : ∀ j ∈ list, j ∈ go → j ∈ front) :
    rest = list.filter fun j => !decide (j ∈ go) := by
  obtain ⟨-, -, hdisjoint⟩ := List.nodup_append.mp (h ▸ hlist)
  have hrest : ∀ j ∈ rest, j ∉ go := fun j hj hjgo =>
    hdisjoint j (hgo j (h ▸ List.mem_append_right front hj) hjgo) j hj rfl
  rw [h, List.filter_append, List.filter_eq_nil_iff.mpr fun j hj => by simp [hfront j hj],
    List.filter_eq_self.mpr fun j hj => by simp [hrest j hj], List.nil_append]

/-! ## What the collections hold -/

/-- Each Slot Queue is the admission order filtered (R41). -/
def State.QueuesListed (s : State) : Prop := ∀ n, (s.slot n).queue = s.admissionOrder.filter (s.queuedAt n)

/-- The head of no Order List is HELD (R78). -/
def State.HeadsUnheld (s : State) : Prop := ∀ l, ∀ i ∈ (s.ctrl l).orderList.head?, s.isHeldAt i = false

/-- The admission order lists the live entries, each Order List is the admission order filtered, and each Release Queue
holds the RELEASED entries; where q holds the order law of R84 holds. -/
structure State.OrdersListed (q : Prop) (s : State) : Prop where
  admission : s.admissionOk
  orderList : ∀ l, (s.ctrl l).orderList = s.admissionOrder.filter (s.ordersOn l)
  nodup : ∀ l, (s.ctrl l).releaseQ.Nodup
  mem : ∀ l i, i ∈ (s.ctrl l).releaseQ ↔ (s.linkedTo l i && s.releasedAt i) = true
  law : q → s.orderLawOk

/-- The collections hold what they should, and where q holds the order law too. -/
structure State.CollectionsListed (q : Prop) (s : State) : Prop where
  orders : s.OrdersListed q
  queues : s.QueuesListed
  heads : s.HeadsUnheld

section Listed

variable {q : Prop} {s : State}

theorem mem_admissionOrder_of_exchangeIs (ha : s.admissionOk) {i : XtIx} {p : Exchange → Bool}
    (h : s.exchangeIs i p = true) : i ∈ s.admissionOrder := by
  obtain ⟨x, hx, -⟩ := exchangeIs_eq_true_iff.mp h
  exact mem_admissionOrder_of_exchange ha hx

theorem collectionsListed_iff : s.CollectionsListed q ↔ s.collectionsOk ∧ (q → s.orderLawOk) := by
  have hqueue (ha : s.admissionOk) (n : SlotIx) := eq_filter_iff (list := (s.slot n).queue) ha.1
    (p := s.queuedAt n) fun i hi => mem_admissionOrder_of_exchangeIs ha hi
  have horder (ha : s.admissionOk) (l : CtrlIx) := eq_filter_iff (list := (s.ctrl l).orderList) ha.1
    (p := s.ordersOn l) fun i hi => mem_admissionOrder_of_exchangeIs ha ((ordersOn_eq s l i).symm.trans hi)
  constructor
  · rintro ⟨⟨ha, hlist, hnodup, hmem, hlaw⟩, hqueues, hheads⟩
    refine ⟨⟨ha, fun n => (hqueue ha n).mp (hqueues n), fun l => ?_⟩, hlaw⟩
    obtain ⟨hsub, hmem'⟩ := (horder ha l).mp (hlist l)
    exact ⟨hsub, fun i => ordersOn_eq s l i ▸ hmem' i, hheads l, hnodup l, fun i => releasedOn_eq s l i ▸ hmem l i⟩
  · rintro ⟨⟨ha, hqueues, horders⟩, hlaw⟩
    refine ⟨⟨ha, fun l => ?_, fun l => ?_, fun l i => ?_, hlaw⟩, fun n => (hqueue ha n).mpr (hqueues n), fun l => ?_⟩
    all_goals obtain ⟨hsub, hmem, hhead, hnodup, hreleased⟩ := horders l
    · exact (horder ha l).mpr ⟨hsub, fun i => ordersOn_eq s l i ▸ hmem i⟩
    · exact hnodup
    · exact releasedOn_eq s l i ▸ hreleased i
    · exact hhead

theorem State.OrdersListed.nodup_orderList (hs : s.OrdersListed q) (l : CtrlIx) : (s.ctrl l).orderList.Nodup :=
  hs.orderList l ▸ hs.admission.1.filter _

theorem State.OrdersListed.mem_orderList (hs : s.OrdersListed q) {l : CtrlIx} {i : XtIx} :
    i ∈ (s.ctrl l).orderList ↔ s.ordersOn l i = true := by
  rw [hs.orderList, List.mem_filter, and_iff_right_of_imp]
  exact fun h => mem_admissionOrder_of_exchangeIs hs.admission ((ordersOn_eq s l i).symm.trans h)

end Listed

end Sys2Proof.Machine
end

section
/-! PROOFS. The Order Lists and the Release Queues under the changes that release entries: an ending (Section 5, R79,
R80), and a RELAY_RESTART (R87, R107). -/

namespace Sys2Proof.Machine

open Sys2Proof

variable {q : Prop} {s t : State}

/-! ## Entries released -/

theorem admissionOk_of_identity_eq (hs : s.admissionOk) (hid : t.identity = s.identity)
    (hadm : t.admissionOrder = s.admissionOrder) : t.admissionOk := by
  obtain ⟨hnodup, hmem⟩ := hs
  refine ⟨hadm ▸ hnodup, fun i => ?_⟩
  have hlive := congrArg (fun e => e.2.isSome) (congrFun hid i)
  simp only [State.identity, Option.isSome_map] at hlive
  rw [hadm, hmem, hlive]

/-- From s to t the entries of the list `go` are RELEASED: each joins the Release Queue of its link and the ordered ones
leave the front of its Order List; no other entry is. -/
structure State.Releases (s t : State) (go : List XtIx) : Prop where
  identity : t.identity = s.identity
  admissionOrder : t.admissionOrder = s.admissionOrder
  released : ∀ j, t.releasedAt j = (s.releasedAt j || decide (j ∈ go))
  fresh : ∀ j ∈ go, s.releasedAt j = false
  nodup : go.Nodup
  releaseQ : ∀ l, (t.ctrl l).releaseQ = (s.ctrl l).releaseQ ++ go.filter (s.linkedTo l)
  orderList : ∀ l, (s.ctrl l).orderList = (go.filter (s.linkedTo l)).filter s.orderedAt ++ (t.ctrl l).orderList

section Releases

variable {go : List XtIx}

theorem linkedTo_of_identity_eq (h : t.identity = s.identity) : t.linkedTo = s.linkedTo :=
  funext fun l => funext fun i => exchangeIs_of_identity_eq h i fun id => id.link == l

theorem orderedAt_of_identity_eq (h : t.identity = s.identity) : t.orderedAt = s.orderedAt :=
  funext fun i => exchangeIs_of_identity_eq h i (·.ordered)

theorem ordersOn_of_releases (h : s.Releases t go) (l : CtrlIx) (j : XtIx) :
    t.ordersOn l j = (!decide (j ∈ go) && s.ordersOn l j) := by
  rw [State.ordersOn, linkedTo_of_identity_eq h.identity, orderedAt_of_identity_eq h.identity, h.released,
    State.ordersOn, Bool.not_or]
  ac_rfl

/-- Released entries keep the collections of the links in order, for they leave the front of an Order List and join the
tail of its Release Queue. -/
theorem ordersListed_of_releases (hs : s.OrdersListed q) (h : s.Releases t go) : t.OrdersListed q where
  admission := admissionOk_of_identity_eq hs.admission h.identity h.admissionOrder
  orderList l := by
    have hrest : (t.ctrl l).orderList = (s.ctrl l).orderList.filter fun j => !decide (j ∈ go) := by
      refine eq_filter_of_append (h.orderList l) (hs.nodup_orderList l) (fun j hj => ?_) fun j hj hgo => ?_
      · exact (List.mem_filter.mp (List.mem_filter.mp hj).1).1
      · have horders := hs.mem_orderList.mp hj
        simp only [State.ordersOn, Bool.and_eq_true] at horders
        obtain ⟨⟨hlink, hordered⟩, -⟩ := horders
        exact List.mem_filter.mpr ⟨List.mem_filter.mpr ⟨hgo, hlink⟩, hordered⟩
    rw [hrest, hs.orderList, List.filter_filter, h.admissionOrder]
    exact List.filter_congr fun j _ => (ordersOn_of_releases h l j).symm
  nodup l := by
    rw [h.releaseQ]
    refine (hs.nodup l).append (h.nodup.filter _) fun j hj hgo => ?_
    have hreleased := (Bool.and_eq_true_iff.mp ((hs.mem l j).mp hj)).2
    rw [h.fresh j (List.mem_filter.mp hgo).1] at hreleased
    cases hreleased
  mem l j := by
    rw [h.releaseQ, List.mem_append, hs.mem, List.mem_filter, linkedTo_of_identity_eq h.identity, h.released]
    simp only [Bool.and_eq_true, Bool.or_eq_true, decide_eq_true_eq]
    tauto
  law hq l := by
    have hlaw := hs.law hq l
    rw [h.orderList l, ← List.append_assoc] at hlaw
    rw [h.releaseQ, h.admissionOrder]
    change ((_ : List XtIx).filter t.orderedAt ++ _).Sublist _
    rw [orderedAt_of_identity_eq h.identity, List.filter_append]
    exact hlaw

/-- A change that releases no entry. -/
theorem releases_nil (hid : t.identity = s.identity) (hadm : t.admissionOrder = s.admissionOrder)
    (hreleased : ∀ j, t.releasedAt j = s.releasedAt j) (hlists : ∀ l, (t.ctrl l).lists = (s.ctrl l).lists) :
    s.Releases t [] where
  identity := hid
  admissionOrder := hadm
  released j := by simp [hreleased j]
  fresh j hj := absurd hj List.not_mem_nil
  nodup := List.nodup_nil
  releaseQ l := (congrArg Prod.snd (hlists l)).trans (List.append_nil _).symm
  orderList l := (congrArg Prod.fst (hlists l)).symm

end Releases

/-! ## One entry changes -/

theorem exchangeIs_setPhase {i : XtIx} {x : Exchange} (hx : s.exchange i = some x) (ph : Phase) (j : XtIx)
    (p : Exchange → Bool) :
    (s.setPhase i ph).exchangeIs j p = if j = i then p (x.withPhase ph) else s.exchangeIs j p := by
  split
  next hj => rw [hj, exchangeIs_of_exchange (exchange_setPhase_self hx ph)]
  next hj => exact exchangeIs_of_entry_eq (entry_setPhase_ne s ph hj) p

theorem exchangeIs_eq_of_setPhase {i : XtIx} {x : Exchange} (hx : s.exchange i = some x) {ph : Phase}
    {p : Exchange → Bool} (hp : p (x.withPhase ph) = p x) (j : XtIx) :
    (s.setPhase i ph).exchangeIs j p = s.exchangeIs j p := by
  rw [exchangeIs_setPhase hx]
  split
  next hj => rw [hj, hp, exchangeIs_of_exchange hx]
  next => rfl

theorem admissionOrder_setPhase (s : State) (i : XtIx) (ph : Phase) :
    (s.setPhase i ph).admissionOrder = s.admissionOrder :=
  admissionOrder_of_ground_eq (ground_setPhase ..)

theorem slot_setPhase (s : State) (i : XtIx) (ph : Phase) (n : SlotIx) : (s.setPhase i ph).slot n = s.slot n := by
  unfold State.setPhase
  split <;> rfl

/-- A change of phase that neither releases the exchange nor takes it back. -/
theorem releases_setPhase {i : XtIx} {x : Exchange} (hx : s.exchange i = some x) {ph : Phase}
    (hp : (x.withPhase ph).isReleased = x.isReleased) : s.Releases (s.setPhase i ph) [] :=
  releases_nil (identity_setPhase ..) (admissionOrder_setPhase ..) (exchangeIs_eq_of_setPhase hx hp) fun l => by
    rw [ctrl_setPhase]

/-! ## The Order Unit (R79, R80) -/

section OrderUnit

variable {i : XtIx} {x : Exchange} (hs : s.OrdersListed q) (hx : s.exchange i = some x) (hlive : x.isEnded = false)
  (r : Response)

include hx in
theorem linkedTo_self : s.linkedTo x.id.link i = true := by
  rw [State.linkedTo, exchangeIs_of_exchange hx, beq_self_eq_true]

include hx in
theorem orderedAt_of_exchange : s.orderedAt i = x.id.ordered := exchangeIs_of_exchange hx _

include hx hlive in
theorem releasedAt_of_unended : s.releasedAt i = false := by
  rw [State.releasedAt, exchangeIs_of_exchange hx, Exchange.isReleased, hlive, Bool.false_and]

include hx hlive in
theorem releases_of_unordered (ho : x.id.ordered = false) : s.Releases (s.handToOrderUnit i x r) [i] where
  identity := identity_handToOrderUnit ..
  admissionOrder := admissionOrder_of_ground_eq (ground_handToOrderUnit ..)
  released j := by
    rw [handToOrderUnit_of_unordered s i r ho]
    refine (exchangeIs_setPhase hx (.released r) j Exchange.isReleased).trans ?_
    by_cases hj : j = i
    · simp [hj, Exchange.isReleased, Exchange.isEnded, Exchange.isHeld]
    · simp [hj, State.releasedAt]
  fresh j hj := List.mem_singleton.mp hj ▸ releasedAt_of_unended hx hlive
  nodup := List.nodup_singleton i
  releaseQ l := by
    rw [handToOrderUnit_of_unordered s i r ho, ctrl_release_of_link,
      filter_linkedTo fun j hj => List.mem_singleton.mp hj ▸ linkedTo_self hx]
  orderList l := by
    rw [handToOrderUnit_of_unordered s i r ho, ctrl_release_of_link, List.filter_eq_nil_iff.mpr fun j hj => ?_]
    · rfl
    · rw [List.mem_singleton.mp (List.mem_filter.mp hj).1, orderedAt_of_exchange hx, ho]
      exact Bool.false_ne_true

include hx hlive in
theorem releases_behind_head (ho : x.id.ordered = true) (hhead : s.orderHead x.id.link ≠ some i) :
    s.Releases (s.handToOrderUnit i x r) [] := by
  rw [handToOrderUnit_behind_head r ho hhead]
  exact releases_setPhase hx (by rw [Exchange.isReleased, Exchange.isReleased, hlive]; rfl)

include hs hx hlive in
/-- The order head is released, and with it the HELD elements behind it. -/
theorem releases_of_head {rest : List XtIx} (ho : x.id.ordered = true)
    (hlist : (s.ctrl x.id.link).orderList = i :: rest) :
    s.Releases (s.handToOrderUnit i x r) (i :: rest.takeWhile s.isHeldAt) := by
  have hnodup : (i :: rest).Nodup := hlist ▸ hs.nodup_orderList x.id.link
  obtain ⟨-, -, hplaced⟩ := orderUnitPlacesAResponse s i x r hx hlive
  obtain ⟨hself, hqueue, horder, hfront, hothers⟩ := hplaced rest ho hlist hnodup
  have hsub : (i :: rest.takeWhile s.isHeldAt).Sublist (i :: rest) := (List.takeWhile_sublist _).cons_cons i
  have horders : ∀ j ∈ i :: rest.takeWhile s.isHeldAt,
      s.linkedTo x.id.link j = true ∧ s.orderedAt j = true ∧ s.releasedAt j = false := fun j hj => by
    have hj' := hs.mem_orderList.mp (hlist.symm ▸ hsub.mem hj)
    simpa only [State.ordersOn, Bool.and_eq_true, Bool.not_eq_true', and_assoc] using hj'
  have hlinked := filter_linkedTo fun j hj => (horders j hj).1
  refine { identity := identity_handToOrderUnit .., admissionOrder := admissionOrder_of_ground_eq
             (ground_handToOrderUnit ..), released := fun j => ?released, fresh := fun j hj => (horders j hj).2.2,
           nodup := hnodup.sublist hsub, releaseQ := fun l => ?releaseQ, orderList := fun l => ?orderList }
  case released =>
    by_cases hj : j ∈ i :: rest.takeWhile s.isHeldAt
    · rw [decide_eq_true hj, Bool.or_true]
      rcases List.mem_cons.mp hj with rfl | hj
      · exact exchangeIs_of_exchange hself Exchange.isReleased
      · obtain ⟨y, r', hy, hp⟩ := isHeldAt_iff.mp (List.mem_takeWhile_imp hj)
        exact exchangeIs_of_exchange (hfront j hj y r' hy hp) Exchange.isReleased
    · rw [decide_eq_false hj, Bool.or_false]
      rw [List.mem_cons, not_or] at hj
      exact exchangeIs_of_entry_eq (hothers j hj.1 hj.2) _
  case releaseQ =>
    rw [hlinked]
    split
    next hl => exact hl ▸ hqueue
    next hl => rw [ctrl_handToOrderUnit_ne s i r hl, List.append_nil]
  case orderList =>
    rw [hlinked]
    split
    next hl =>
      subst hl
      rw [List.filter_eq_self.mpr fun j hj => (horders j hj).2.1, hlist, horder, List.cons_append,
        List.prefix_iff_eq_append.mp (List.takeWhile_prefix _)]
    next hl => rw [ctrl_handToOrderUnit_ne s i r hl, List.filter_nil, List.nil_append]

include hs hx hlive in
theorem exists_releases_handToOrderUnit : ∃ go, s.Releases (s.handToOrderUnit i x r) go := by
  cases ho : x.id.ordered with
  | false => exact ⟨_, releases_of_unordered hx hlive r ho⟩
  | true =>
    by_cases hhead : s.orderHead x.id.link = some i
    · obtain ⟨rest, hrest⟩ := List.head?_eq_some_iff.mp hhead
      exact ⟨_, releases_of_head hs hx hlive r ho hrest⟩
    · exact ⟨_, releases_behind_head hx hlive r ho hhead⟩

end OrderUnit

/-! ## The heads of the Order Lists (R78) -/

/-- An entry that a change only releases is not HELD after it where it was not before. -/
theorem isHeldAt_of_keepsAt {j : XtIx} (hid : t.identity = s.identity) (h : s.KeepsAt t j)
    (hheld : s.isHeldAt j = false) : t.isHeldAt j = false := by
  rcases exchange_eq_none_or_some s j with hx | ⟨x, hx⟩
  · rw [isHeldAt_of_entry_eq (entry_of_identity_eq (congrFun hid j) hx), hheld]
  · obtain ⟨y, hy, hxy⟩ := h x hx
    rw [isHeldAt_eq, exchangeIs_of_exchange hx] at hheld
    rw [isHeldAt_eq, exchangeIs_of_exchange hy, eq_of_sameOrReleased hxy hheld, hheld]

theorem headsUnheld_of_orderList_eq (hs : s.HeadsUnheld)
    (hlist : ∀ l, (t.ctrl l).orderList = (s.ctrl l).orderList)
    (hheld : ∀ l, ∀ j ∈ (s.ctrl l).orderList.head?, s.isHeldAt j = false → t.isHeldAt j = false) : t.HeadsUnheld :=
  fun l j hj => by
    rw [hlist] at hj
    exact hheld l j hj (hs l j hj)

theorem headsUnheld_of_nil (h : ∀ l, (t.ctrl l).orderList = []) : t.HeadsUnheld := fun l j hj => by
  rw [h] at hj
  cases hj

section OrderUnit

variable {i : XtIx} {x : Exchange} (hs : s.OrdersListed q) (hheads : s.HeadsUnheld) (hx : s.exchange i = some x)
  (hlive : x.isEnded = false) (r : Response)

theorem isHeldAt_handToOrderUnit_ne (s : State) (i : XtIx) (x : Exchange) (r : Response) {j : XtIx} (hj : j ≠ i)
    (hheld : s.isHeldAt j = false) : (s.handToOrderUnit i x r).isHeldAt j = false :=
  isHeldAt_of_keepsAt (identity_handToOrderUnit ..) (keepsAt_handToOrderUnit s i x r hj) hheld

include hs hx in
theorem link_of_mem_orderList {l : CtrlIx} (h : i ∈ (s.ctrl l).orderList) : x.id.link = l ∧ x.id.ordered = true := by
  have horders := hs.mem_orderList.mp h
  rw [ordersOn_eq, exchangeIs_of_exchange hx] at horders
  simp only [Bool.and_eq_true, beq_iff_eq] at horders
  exact horders.1

include hs hheads hx hlive in
/-- Behind the order head the cascade stops at an element that is not HELD (R80). -/
theorem headsUnheld_of_head {rest : List XtIx} (ho : x.id.ordered = true)
    (hlist : (s.ctrl x.id.link).orderList = i :: rest) : (s.handToOrderUnit i x r).HeadsUnheld := by
  have hnodup : (i :: rest).Nodup := hlist ▸ hs.nodup_orderList x.id.link
  obtain ⟨-, -, hplaced⟩ := orderUnitPlacesAResponse s i x r hx hlive
  obtain ⟨-, -, horder, -⟩ := hplaced rest ho hlist hnodup
  have hfront := List.prefix_iff_eq_append.mp (List.takeWhile_prefix s.isHeldAt (l := rest))
  intro l j hj
  by_cases hl : x.id.link = l
  · subst hl
    rw [horder] at hj
    have hdrop : rest.drop (rest.takeWhile s.isHeldAt).length = rest.dropWhile s.isHeldAt :=
      List.append_cancel_left (hfront.trans List.takeWhile_append_dropWhile.symm)
    have hmem : j ∈ rest := List.mem_of_mem_drop (List.mem_of_mem_head? hj)
    rw [hdrop] at hj
    have hstop := List.head?_dropWhile_not s.isHeldAt rest
    rw [Option.mem_def.mp hj] at hstop
    exact isHeldAt_handToOrderUnit_ne s i x r (ne_of_mem_of_not_mem hmem (List.nodup_cons.mp hnodup).1)
      (by simpa using hstop)
  · rw [ctrl_handToOrderUnit_ne s i r hl] at hj
    refine isHeldAt_handToOrderUnit_ne s i x r (fun hji => hl ?_) (hheads l j hj)
    exact (link_of_mem_orderList hs hx (hji ▸ List.mem_of_mem_head? hj)).1

include hs hheads hx hlive in
theorem headsUnheld_handToOrderUnit : (s.handToOrderUnit i x r).HeadsUnheld := by
  have hsame (hlists : ∀ l, ((s.handToOrderUnit i x r).ctrl l).orderList = (s.ctrl l).orderList)
      (hno : ∀ l, i ∉ (s.ctrl l).orderList.head?) : (s.handToOrderUnit i x r).HeadsUnheld :=
    headsUnheld_of_orderList_eq hheads hlists fun l j hj =>
      isHeldAt_handToOrderUnit_ne s i x r (ne_of_mem_of_not_mem hj (hno l))
  cases ho : x.id.ordered with
  | false =>
    refine hsame (fun l => by rw [handToOrderUnit_of_unordered s i r ho, ctrl_release_of_link]) fun l hi => ?_
    rw [(link_of_mem_orderList hs hx (List.mem_of_mem_head? hi)).2] at ho
    cases ho
  | true =>
    by_cases hhead : s.orderHead x.id.link = some i
    · obtain ⟨rest, hrest⟩ := List.head?_eq_some_iff.mp hhead
      exact headsUnheld_of_head hs hheads hx hlive r ho hrest
    · refine hsame (fun l => by rw [handToOrderUnit_behind_head r ho hhead, ctrl_setPhase]) fun l hi => hhead ?_
      exact (link_of_mem_orderList hs hx (List.mem_of_mem_head? hi)).1 ▸ hi

end OrderUnit

end Sys2Proof.Machine
end

section
/-! PROOFS. Every step keeps the collections (Section 1, R14; Section 4, R41; Section 5, R77, R78, R83) and the order
law of R84: each change of the lists of exchanges does. -/

namespace Sys2Proof.Machine

open Sys2Proof

variable {q : Prop} {s t : State} {i : XtIx} {x : Exchange}

/-! ## An exchange leaves its Slot Queue -/

theorem not_mem_queue_of_slot_ne (hs : s.QueuesListed) (hx : s.exchange i = some x) {n : SlotIx} (hn : x.id.slot ≠ n) :
    i ∉ (s.slot n).queue := by
  rw [hs n, List.mem_filter, State.queuedAt, exchangeIs_of_exchange hx]
  simp [hn]

/-- An exchange that leaves the queue of its slot stands in no Slot Queue. -/
theorem queue_left (hs : s.QueuesListed) (hx : s.exchange i = some x) (n : SlotIx) :
    (if x.id.slot = n then (s.slot n).queue.filter (· != i) else (s.slot n).queue)
      = (s.slot n).queue.filter (· != i) := by
  split
  next => rfl
  next hn => exact (filter_ne_of_not_mem (not_mem_queue_of_slot_ne hs hx hn)).symm

/-- The Slot Queues are in order where one entry has left them, be it live or FREE. -/
theorem queuesListed_of_left (hs : s.QueuesListed)
    (hadm : t.admissionOrder.filter (· != i) = s.admissionOrder.filter (· != i))
    (hqueue : ∀ n, (t.slot n).queue = (s.slot n).queue.filter (· != i))
    (hqueued : ∀ n j, t.queuedAt n j = (s.queuedAt n j && j != i)) : t.QueuesListed := fun n => by
  calc (t.slot n).queue = (s.admissionOrder.filter (s.queuedAt n)).filter (· != i) := by rw [hqueue, hs n]
    _ = (s.admissionOrder.filter (· != i)).filter (s.queuedAt n) := List.filter_comm ..
    _ = t.admissionOrder.filter (t.queuedAt n) := by
      rw [← hadm, List.filter_filter]
      exact List.filter_congr fun j _ => (hqueued n j).symm

theorem queuesListed_of_eq (hs : s.QueuesListed) (hadm : t.admissionOrder = s.admissionOrder)
    (hqueue : ∀ n, (t.slot n).queue = (s.slot n).queue) (hqueued : ∀ n, t.queuedAt n = s.queuedAt n) :
    t.QueuesListed := fun n => by rw [hqueue, hs n, hadm, hqueued]

/-! ## The books, and a change of position -/

theorem exchangeIs_of_books_eq (h : t.books = s.books) (j : XtIx) (p : Exchange → Bool) :
    t.exchangeIs j p = s.exchangeIs j p :=
  exchangeIs_of_exchange_eq (exchange_of_books_eq h j) p

theorem identity_of_books_eq (h : t.books = s.books) : t.identity = s.identity :=
  identity_of_entries_eq (congrArg Prod.fst h)

theorem ordersListed_of_books_eq (h : t.books = s.books) (hs : s.OrdersListed q) : t.OrdersListed q :=
  ordersListed_of_releases hs <| releases_nil (identity_of_books_eq h) (admissionOrder_of_books_eq h)
    (fun j => exchangeIs_of_books_eq h j _) (lists_of_books_eq h)

theorem queuesListed_of_books_eq (h : t.books = s.books) (hs : s.QueuesListed) : t.QueuesListed :=
  queuesListed_of_eq hs (admissionOrder_of_books_eq h) (queue_of_books_eq h) fun _ =>
    funext fun j => exchangeIs_of_books_eq h j _

theorem collectionsListed_of_books_eq (h : t.books = s.books) (hs : s.CollectionsListed q) :
    t.CollectionsListed q where
  orders := ordersListed_of_books_eq h hs.orders
  queues := queuesListed_of_books_eq h hs.queues
  heads := headsUnheld_of_orderList_eq hs.heads (fun l => congrArg Prod.fst (lists_of_books_eq h l))
    fun _ j _ hheld => (exchangeIs_of_books_eq h j Exchange.isHeld).trans hheld

/-- An exchange that holds a position is neither QUEUED nor ended. -/
theorem unended_of_position (h : x.position.isSome = true) :
    x.isQueued = false ∧ x.isReleased = false ∧ x.isHeld = false := by
  rcases x with ⟨id, phase⟩
  cases phase with
  | queued c | held r | released r => cases h
  | active c sp d | parked sp d | cancelling sp d former => exact ⟨rfl, rfl, rfl⟩

theorem collectionsListed_setPhase (hs : s.CollectionsListed q) (hx : s.exchange i = some x) {ph : Phase}
    (hpos : x.position.isSome = true) (hpos' : (x.withPhase ph).position.isSome = true) :
    (s.setPhase i ph).CollectionsListed q := by
  obtain ⟨hqueued, hreleased, hheld⟩ := unended_of_position hpos
  obtain ⟨hqueued', hreleased', hheld'⟩ := unended_of_position hpos'
  exact {
    orders := ordersListed_of_releases hs.orders (releases_setPhase hx (hreleased'.trans hreleased.symm))
    queues := queuesListed_of_eq hs.queues (admissionOrder_setPhase ..) (fun n => by rw [slot_setPhase]) fun n =>
      funext <| exchangeIs_eq_of_setPhase hx (by rw [hqueued', hqueued])
    heads := headsUnheld_of_orderList_eq hs.heads (fun l => by rw [ctrl_setPhase]) fun _ j _ h =>
      (exchangeIs_eq_of_setPhase hx (hheld'.trans hheld.symm) j).trans h }

/-! ## An issue (R48) -/

section Issue

variable {c : CmdSpace} (hx : s.exchange i = some x) (hp : x.phase = .queued c) (pool : Pool)

include hx hp

/-- An exchange that is issued stays unended. -/
theorem exchangeIs_issueExchange {p : Exchange → Bool} (hp' : p x = false)
    (h : ∀ c d, p (x.withPhase (.active c ⟨x.need, pool⟩ d)) = false) (j : XtIx) :
    (s.issueExchange i pool).exchangeIs j p = s.exchangeIs j p := by
  have hplaces := places_issueExchange hx hp pool
  by_cases hj : j = i
  · rw [hj, exchangeIs_of_exchange hplaces.after, h, exchangeIs_of_exchange hx, hp']
  · exact exchangeIs_of_exchange_eq (hplaces.others j hj) p

theorem ctrl_issueExchange (l : CtrlIx) : (s.issueExchange i pool).ctrl l = s.ctrl l := by
  rw [issueExchange_of_queued hx hp]
  cases pool <;> rfl

theorem admissionOrder_issueExchange : (s.issueExchange i pool).admissionOrder = s.admissionOrder := by
  rw [issueExchange_of_queued hx hp]
  cases pool <;> rfl

theorem queue_issueExchange (n : SlotIx) : ((s.issueExchange i pool).slot n).queue
    = if x.id.slot = n then (s.slot n).queue.filter (· != i) else (s.slot n).queue := by
  rw [issueExchange_of_queued hx hp, slot_takeResp, slot_onSlot]
  split
  next hn => exact hn ▸ rfl
  next => rfl

end Issue

theorem collectionsListed_issueExchange (hs : s.CollectionsListed q) (i : XtIx) (pool : Pool) :
    (s.issueExchange i pool).CollectionsListed q := by
  by_cases hqueued : ∃ x c, s.exchange i = some x ∧ x.phase = .queued c
  case neg => rwa [issueExchange_of_not_queued hqueued]
  obtain ⟨x, c, hx, hp⟩ := hqueued
  have hplaces := places_issueExchange hx hp pool
  have hadm := admissionOrder_issueExchange hx hp pool
  have hctrl := ctrl_issueExchange hx hp pool
  refine { orders := ?orders, queues := ?queues, heads := ?heads }
  case orders =>
    exact ordersListed_of_releases hs.orders <| releases_nil (identity_issueExchange ..) hadm
      (exchangeIs_issueExchange hx hp pool (by simp [Exchange.isReleased, Exchange.isEnded, hp]) fun _ _ => rfl)
      fun l => by rw [hctrl]
  case queues =>
    refine queuesListed_of_left (i := i) hs.queues (by rw [hadm])
      (fun n => (queue_issueExchange hx hp pool n).trans (queue_left hs.queues hx n)) fun n j => ?_
    by_cases hj : j = i
    · rw [hj, State.queuedAt, exchangeIs_of_exchange hplaces.after]
      simp [Exchange.isQueued]
    · rw [State.queuedAt, exchangeIs_of_exchange_eq (hplaces.others j hj), bne_iff_ne.mpr hj, Bool.and_true,
        State.queuedAt]
  case heads =>
    exact headsUnheld_of_orderList_eq hs.heads (fun l => by rw [hctrl]) fun _ j _ h =>
      (exchangeIs_issueExchange hx hp pool (p := Exchange.isHeld) (by simp [Exchange.isHeld, hp]) (fun _ _ => rfl)
        j).trans h

/-! ## An ending (R15) -/

section Ending

variable (hx : s.exchange i = some x) (r : Response) (orphan : Bool)

theorem queue_endSlotSide (s : State) (i : XtIx) (x : Exchange) (r : Response) (orphan : Bool) (n : SlotIx) :
    ((s.endSlotSide i x r orphan).slot n).queue
      = if x.id.slot = n then (s.slot n).queue.filter (· != i) else (s.slot n).queue := by
  have hclose : ((s.slot n).close i (s.relayTag i)).queue = (s.slot n).queue.filter (· != i) := by
    rw [← queue_core, core_close, queue_core]
  rw [slot_endSlotSide]
  split
  · split
    · exact hclose
    · rw [← queue_core, core_slot_withdraw, queue_core, hclose]
  · rfl

theorem queuedAt_of_keepsAt {j : XtIx} (hid : t.identity = s.identity) (h : s.KeepsAt t j) (n : SlotIx) :
    t.queuedAt n j = s.queuedAt n j := by
  rcases exchange_eq_none_or_some s j with hx | ⟨x, hx⟩
  · exact exchangeIs_of_entry_eq (entry_of_identity_eq (congrFun hid j) hx) _
  · obtain ⟨y, hy, hxy⟩ := h x hx
    rw [State.queuedAt, State.queuedAt, exchangeIs_of_exchange hx, exchangeIs_of_exchange hy,
      isQueued_of_sameOrReleased hxy, id_of_sameOrReleased hxy]

include hx

theorem queuedAt_endExchange (n : SlotIx) (j : XtIx) :
    (s.endExchange i r orphan).queuedAt n j = (s.queuedAt n j && j != i) := by
  by_cases hj : j = i
  · rw [hj, State.queuedAt, exchangeIs_of_exchange (exchange_endExchange hx r orphan), bne_self_eq_false,
      Bool.and_false, State.endedPhase]
    split <;> exact Bool.and_false _
  · rw [queuedAt_of_keepsAt (identity_ending hx r orphan) (keepsAt_ending hx r orphan hj), bne_iff_ne.mpr hj,
      Bool.and_true]

theorem collectionsListed_endExchange (hs : s.CollectionsListed q) (hlive : x.isEnded = false) :
    (s.endExchange i r orphan).CollectionsListed q := by
  have hadm : (s.endExchange i r orphan).admissionOrder = s.admissionOrder :=
    admissionOrder_of_ground_eq (ground_endExchange ..)
  have hside : ∀ j, (s.endSlotSide i x r orphan).exchange j = s.exchange j := exchange_endSlotSide s i x r orphan
  have horders : (s.endSlotSide i x r orphan).OrdersListed q :=
    ordersListed_of_releases hs.orders <| releases_nil (identity_of_entries_eq (entries_endSlotSide ..))
      (admissionOrder_of_ground_eq (ground_endSlotSide ..)) (fun j => exchangeIs_of_exchange_eq (hside j) _)
      fun l => by rw [ctrl_endSlotSide]
  have hheads : (s.endSlotSide i x r orphan).HeadsUnheld :=
    headsUnheld_of_orderList_eq hs.heads (fun l => by rw [ctrl_endSlotSide]) fun _ j _ h =>
      (exchangeIs_of_exchange_eq (hside j) Exchange.isHeld).trans h
  have hx' := (hside i).trans hx
  refine { orders := ?orders, queues := ?queues, heads := ?heads }
  case orders =>
    obtain ⟨go, hgo⟩ := exists_releases_handToOrderUnit horders hx' hlive r
    exact endExchange_eq hx r orphan ▸ ordersListed_of_releases horders hgo
  case queues =>
    refine queuesListed_of_left (i := i) hs.queues (by rw [hadm]) (fun n => ?_) (queuedAt_endExchange hx r orphan)
    rw [slot_endExchange hx, queue_endSlotSide, queue_left hs.queues hx]
  case heads =>
    exact endExchange_eq hx r orphan ▸ headsUnheld_handToOrderUnit horders hheads hx' hlive r

end Ending

/-! ## RELAY_RESTART (R87, R107) -/

section Restart

variable (ha : s.admissionOk)

include ha

theorem exchange_restartAll (i : XtIx) : s.restartAll.exchange i = (s.exchange i).map Exchange.restarted := by
  rw [State.exchange, entry_restartAll ha]

theorem releases_restartAll (hs : s.OrdersListed q) :
    s.Releases s.restartAll (s.admissionOrder.filter fun i => !s.releasedAt i) where
  identity := identity_restartAll s
  admissionOrder := admissionOrder_restartAll s
  released j := by
    rcases exchange_eq_none_or_some s j with hx | ⟨x, hx⟩
    · have hj : j ∉ s.admissionOrder := fun h => by simpa [hx] using (ha.2 j).mp h
      rw [State.releasedAt, exchangeIs_of_free (by rw [exchange_restartAll ha, hx, Option.map_none]), State.releasedAt,
        exchangeIs_of_free hx, decide_eq_false fun h => hj (List.mem_filter.mp h).1, Bool.or_false]
    · have hx' : s.restartAll.exchange j = some x.restarted := by rw [exchange_restartAll ha, hx, Option.map_some]
      rw [State.releasedAt, exchangeIs_of_exchange hx', isReleased_iff.mpr ⟨_, rfl⟩]
      cases hreleased : s.releasedAt j <;>
        simp [List.mem_filter, hreleased, mem_admissionOrder_of_exchange ha hx]
  fresh j hj := by simpa using (List.mem_filter.mp hj).2
  nodup := ha.1.filter _
  releaseQ l := by
    obtain ⟨nq, f, hctrl⟩ := ctrl_restartAll ha l
    have hawaits : s.awaitsRelease l = fun i => s.linkedTo l i && !s.releasedAt i := funext fun i => by
      unfold State.awaitsRelease State.linkedTo State.releasedAt State.exchangeIs
      split <;> rfl
    rw [hctrl, List.filter_filter, hawaits]
  orderList l := by
    obtain ⟨nq, f, hctrl⟩ := ctrl_restartAll ha l
    rw [hctrl, List.append_nil, List.filter_filter, List.filter_filter, hs.orderList]
    refine List.filter_congr fun j _ => ?_
    rw [State.ordersOn, Bool.and_comm (s.linkedTo l j), Bool.and_assoc]

theorem queue_restartAll (hq : s.queuesOk) (n : SlotIx) : (s.restartAll.slot n).queue = [] := by
  obtain ⟨b, ⟨sq, rfl, -⟩, hslot⟩ := slot_restartAll ha n
  rw [hslot]
  exact filter_queue_vacates hq n

end Restart

theorem collectionsListed_restartAll (hs : s.CollectionsListed q) : s.restartAll.CollectionsListed q := by
  have ha := hs.orders.admission
  obtain ⟨⟨-, hqueues, -⟩, -⟩ := collectionsListed_iff.mp hs
  refine { orders := ordersListed_of_releases hs.orders (releases_restartAll ha hs.orders), queues := fun n => ?queues,
           heads := headsUnheld_of_nil fun l => ?heads }
  case queues =>
    rw [queue_restartAll ha hqueues]
    refine (List.filter_eq_nil_iff.mpr fun j _ hj => ?_).symm
    obtain ⟨y, hy, hqueued⟩ := exchangeIs_eq_true_iff.mp hj
    obtain ⟨x, -, rfl⟩ := Option.map_eq_some_iff.mp ((exchange_restartAll ha j).symm.trans hy)
    exact absurd (Bool.and_eq_true_iff.mp hqueued).2 Bool.false_ne_true
  case heads =>
    obtain ⟨nq, f, hctrl⟩ := ctrl_restartAll ha l
    rw [hctrl]

end Sys2Proof.Machine
end

section
/-! PROOFS. The collections at an admission (Section 1, R14), where entries become FREE (R19, R86, R105), and after
every step. -/

namespace Sys2Proof.Machine

open Sys2Proof

variable {q : Prop} {s : State}

/-! ## An admission -/

/-- A list to which one element is added, filtered. -/
theorem filter_append_of_new {list : List XtIx} {i : XtIx} {p p' : XtIx → Bool} (h : ∀ j ∈ list, p' j = p j) :
    (list ++ [i]).filter p' = list.filter p ++ if p' i = true then [i] else [] := by
  rw [List.filter_append, List.filter_congr h, List.filter_singleton]
  cases p' i <;> rfl

section Admission

variable {l : CtrlIx} {c : CmdFrame} {n : SlotIx} {i : XtIx}

theorem exchangeIs_admitCmd_self (s : State) (l : CtrlIx) (c : CmdFrame) (n : SlotIx) (i : XtIx)
    (p : Exchange → Bool) : (s.admitCmd l c n i).exchangeIs i p = p (s.admittedExchange l c n) :=
  exchangeIs_of_exchange (exchange_admitCmd_self ..) p

theorem exchangeIs_admitCmd_ne (s : State) (l : CtrlIx) (c : CmdFrame) (n : SlotIx) {i j : XtIx} (h : j ≠ i)
    (p : Exchange → Bool) : (s.admitCmd l c n i).exchangeIs j p = s.exchangeIs j p :=
  exchangeIs_of_exchange_eq (exchange_admitCmd_ne s l c n h) p

theorem ctrl_admitCmd (s : State) (l : CtrlIx) (c : CmdFrame) (n : SlotIx) (i : XtIx) (m : CtrlIx) :
    (s.admitCmd l c n i).ctrl m = { s.ctrl m with
      orderList := (s.ctrl m).orderList ++ if (l == m && c.ordered) = true then [i] else [] } := by
  have hctrl : (s.admitCmd l c n i).ctrl m = (s.onCtrl l fun b => { b with
      orderList := if c.ordered then b.orderList ++ [i] else b.orderList }).ctrl m := by
    rw [admitCmd_eq]
    rfl
  rw [hctrl, ctrl_onCtrl]
  by_cases hm : l = m
  · subst hm
    cases c.ordered <;> simp
  · simp [hm]

theorem admissionOrder_admitCmd (s : State) (l : CtrlIx) (c : CmdFrame) (n : SlotIx) (i : XtIx) :
    (s.admitCmd l c n i).admissionOrder = s.admissionOrder ++ [i] := by
  rw [admitCmd_eq]

theorem ordersOn_admitCmd_self (s : State) (l : CtrlIx) (c : CmdFrame) (n : SlotIx) (i : XtIx) (m : CtrlIx) :
    (s.admitCmd l c n i).ordersOn m i = (l == m && c.ordered) := by
  rw [ordersOn_eq, exchangeIs_admitCmd_self]
  exact Bool.and_true _

theorem ordersOn_admitCmd_ne (s : State) (l : CtrlIx) (c : CmdFrame) (n : SlotIx) {i j : XtIx} (h : j ≠ i)
    (m : CtrlIx) : (s.admitCmd l c n i).ordersOn m j = s.ordersOn m j := by
  rw [ordersOn_eq, exchangeIs_admitCmd_ne s l c n h, ordersOn_eq]

theorem queue_admitCmd (s : State) (l : CtrlIx) (c : CmdFrame) (n : SlotIx) (i : XtIx) (m : SlotIx) :
    ((s.admitCmd l c n i).slot m).queue = (s.slot m).queue
      ++ if (s.admitCmd l c n i).queuedAt m i = true then [i] else [] := by
  have hqueued : (s.admitCmd l c n i).queuedAt m i = (n == m) :=
    (exchangeIs_admitCmd_self ..).trans (Bool.and_true _)
  rw [slot_admitCmd, hqueued]
  by_cases hm : n = m
  · simp [hm]
  · simp [hm]

variable (hs : s.OrdersListed q) (hfree : s.exchange i = none)

include hs hfree

theorem not_mem_admissionOrder_of_free : i ∉ s.admissionOrder := fun h => by
  simpa [hfree] using (hs.admission.2 i).mp h

theorem not_mem_releaseQ_of_free (m : CtrlIx) : i ∉ (s.ctrl m).releaseQ := fun h => by
  have hreleased := (hs.mem m i).mp h
  rw [releasedOn_eq, exchangeIs_of_free hfree] at hreleased
  cases hreleased

theorem admissionOk_admitCmd : (s.admitCmd l c n i).admissionOk := by
  have hi := not_mem_admissionOrder_of_free hs hfree
  obtain ⟨hnodup, hmem⟩ := hs.admission
  rw [State.admissionOk, admissionOrder_admitCmd]
  refine ⟨hnodup.append (List.nodup_singleton i) (List.disjoint_singleton.mpr hi), fun j => ?_⟩
  rw [List.mem_append, List.mem_singleton, hmem]
  by_cases hj : j = i
  · simp [hj, exchange_admitCmd_self]
  · simp [hj, exchange_admitCmd_ne s l c n hj]

theorem ordersListed_admitCmd : (s.admitCmd l c n i).OrdersListed q := by
  have hi := not_mem_admissionOrder_of_free hs hfree
  refine { admission := admissionOk_admitCmd hs hfree, orderList := fun m => ?orderList, nodup := fun m => ?nodup,
           mem := fun m j => ?mem, law := fun hq m => ?law }
  case orderList =>
    rw [ctrl_admitCmd, admissionOrder_admitCmd, hs.orderList, ← ordersOn_admitCmd_self s l c n i m]
    exact (filter_append_of_new fun j hj => ordersOn_admitCmd_ne s l c n (ne_of_mem_of_not_mem hj hi) m).symm
  case nodup =>
    rw [ctrl_admitCmd]
    exact hs.nodup m
  case mem =>
    rw [ctrl_admitCmd, releasedOn_eq]
    by_cases hj : j = i
    · rw [hj, exchangeIs_admitCmd_self]
      exact iff_of_false (not_mem_releaseQ_of_free hs hfree m) (by simp [State.admittedExchange, Exchange.isReleased,
        Exchange.isEnded])
    · rw [exchangeIs_admitCmd_ne s l c n hj, ← releasedOn_eq, ← hs.mem]
  case law =>
    have hordered : ∀ j ∈ (s.ctrl m).releaseQ, (s.admitCmd l c n i).orderedAt j = s.orderedAt j := fun j hj =>
      exchangeIs_admitCmd_ne s l c n (ne_of_mem_of_not_mem hj (not_mem_releaseQ_of_free hs hfree m)) _
    rw [ctrl_admitCmd, admissionOrder_admitCmd]
    change ((s.ctrl m).releaseQ.filter (s.admitCmd l c n i).orderedAt ++ _).Sublist _
    rw [List.filter_congr hordered, ← List.append_assoc]
    refine (hs.law hq m).append ?_
    split
    · exact List.Sublist.refl _
    · exact List.nil_sublist _

end Admission

theorem collectionsListed_admitCmd {l : CtrlIx} {c : CmdFrame} {n : SlotIx} {i : XtIx} (hs : s.CollectionsListed q)
    (h : s.admissionCheck l c = .ok (n, i)) : (s.admitCmd l c n i).CollectionsListed q := by
  obtain ⟨hfree, -, -⟩ := allocatable_eq_some_iff.mp (allocatable_of_admissionCheck h)
  have hi := not_mem_admissionOrder_of_free hs.orders hfree
  refine { orders := ordersListed_admitCmd hs.orders hfree, queues := fun m => ?queues, heads := fun m j hj => ?heads }
  case queues =>
    rw [queue_admitCmd, hs.queues m, admissionOrder_admitCmd]
    exact (filter_append_of_new fun j hj => exchangeIs_admitCmd_ne s l c n (ne_of_mem_of_not_mem hj hi) _).symm
  case heads =>
    by_cases hji : j = i
    · rw [hji, isHeldAt_eq, exchangeIs_admitCmd_self]
      rfl
    · rw [isHeldAt_eq, exchangeIs_admitCmd_ne s l c n hji]
      refine hs.heads m j ?_
      rw [ctrl_admitCmd, List.head?_append] at hj
      cases hhead : (s.ctrl m).orderList.head? with
      | some k => rwa [hhead, Option.some_or] at hj
      | none =>
        rw [hhead, Option.none_or] at hj
        split at hj
        · exact absurd (Option.some.inj hj).symm hji
        · cases hj

/-! ## An entry becomes FREE (R19) -/

section Free

variable {i : XtIx} {x : Exchange} (o : Option Position)

theorem exchangeIs_freeEntry (s : State) (i : XtIx) (x : Exchange) (o : Option Position) (j : XtIx)
    (p : Exchange → Bool) : (s.freeEntry i x o).exchangeIs j p = (s.exchangeIs j p && j != i) := by
  by_cases hj : j = i
  · rw [hj, exchangeIs_of_free (by rw [State.exchange, entry_freeEntry_self]), bne_self_eq_false, Bool.and_false]
  · rw [exchangeIs_of_entry_eq (entry_freeEntry_ne s x o hj), bne_iff_ne.mpr hj, Bool.and_true]

theorem admissionOrder_freeEntry (s : State) (i : XtIx) (x : Exchange) (o : Option Position) :
    (s.freeEntry i x o).admissionOrder = s.admissionOrder.filter (· != i) :=
  admissionOrder_of_ground_eq (ground_freeEntry ..)

theorem queue_freeEntry (s : State) (i : XtIx) (x : Exchange) (o : Option Position) (n : SlotIx) :
    ((s.freeEntry i x o).slot n).queue
      = if x.id.slot = n then (s.slot n).queue.filter (· != i) else (s.slot n).queue := by
  rw [slot_freeEntry, slot_closeSlotSide]
  split
  · refine (show _ = ((s.slot n).close i (s.relayTag i)).queue from rfl).trans ?_
    rw [← queue_core, core_close, queue_core]
  · rfl

variable (hs : s.OrdersListed q) (hx : s.exchange i = some x)

include hs hx

/-- The freed entry leaves the collections of its own link, and stands in those of no other. -/
theorem lists_freeEntry (l : CtrlIx) : ((s.freeEntry i x o).ctrl l).lists
    = ((s.ctrl l).orderList.filter (· != i), (s.ctrl l).releaseQ.filter (· != i)) := by
  rw [ctrl_freeEntry]
  split
  next => rfl
  next hl =>
    have horder : i ∉ (s.ctrl l).orderList := fun h => hl (link_of_mem_orderList hs hx h).1
    have hrelease : i ∉ (s.ctrl l).releaseQ := fun h => hl <|
      (eq_of_linkedTo (linkedTo_self hx) (Bool.and_eq_true_iff.mp ((hs.mem l i).mp h)).1).symm
    rw [filter_ne_of_not_mem horder, filter_ne_of_not_mem hrelease, CtrlBlock.lists]

theorem ordersListed_freeEntry : (s.freeEntry i x o).OrdersListed q := by
  have hlists := lists_freeEntry o hs hx
  have horderList (l : CtrlIx) : ((s.freeEntry i x o).ctrl l).orderList = (s.ctrl l).orderList.filter (· != i) :=
    congrArg Prod.fst (hlists l)
  have hreleaseQ (l : CtrlIx) : ((s.freeEntry i x o).ctrl l).releaseQ = (s.ctrl l).releaseQ.filter (· != i) :=
    congrArg Prod.snd (hlists l)
  have hadm := admissionOrder_freeEntry s i x o
  obtain ⟨hnodup, hmem⟩ := hs.admission
  refine { admission := ⟨hadm ▸ hnodup.filter _, fun j => ?admission⟩, orderList := fun l => ?orderList,
           nodup := fun l => hreleaseQ l ▸ (hs.nodup l).filter _, mem := fun l j => ?mem, law := fun hq l => ?law }
  case admission =>
    rw [hadm, List.mem_filter, hmem, bne_iff_ne]
    by_cases hj : j = i
    · simp [hj, State.exchange, entry_freeEntry_self]
    · simp [hj, State.exchange, entry_freeEntry_ne s x o hj]
  case orderList =>
    rw [horderList, hs.orderList, hadm, List.filter_comm, List.filter_filter, List.filter_filter]
    refine List.filter_congr fun j _ => ?_
    rw [ordersOn_eq (s.freeEntry i x o), exchangeIs_freeEntry, ordersOn_eq]
    cases j != i <;> simp
  case mem =>
    rw [hreleaseQ, List.mem_filter, hs.mem, releasedOn_eq, releasedOn_eq, exchangeIs_freeEntry, Bool.and_eq_true]
  case law =>
    have hordered : ∀ j ∈ (s.ctrl l).releaseQ.filter (· != i), (s.freeEntry i x o).orderedAt j = s.orderedAt j :=
      fun j hj => by
        rw [State.orderedAt, exchangeIs_freeEntry, (List.mem_filter.mp hj).2, Bool.and_true, State.orderedAt]
    have hlaw := (hs.law hq l).filter (· != i)
    rw [List.filter_append, List.filter_comm] at hlaw
    rw [hreleaseQ, horderList, hadm]
    exact (List.filter_congr hordered) ▸ hlaw

omit hs in
theorem queuesListed_freeEntry (hq : s.QueuesListed) : (s.freeEntry i x o).QueuesListed :=
  queuesListed_of_left (i := i) hq (by rw [admissionOrder_freeEntry, List.filter_filter]; simp)
    (fun n => (queue_freeEntry s i x o n).trans (queue_left hq hx n)) fun _ _ => exchangeIs_freeEntry ..

end Free

/-! ## The RESP has left (R86) -/

/-- A change of a link beside its Order List and its Release Queue. -/
theorem books_onCtrl {l : CtrlIx} {f : CtrlBlock → CtrlBlock} (h : (f (s.ctrl l)).lists = (s.ctrl l).lists) :
    (s.onCtrl l f).books = s.books := by
  have hlists : (fun m => ((s.onCtrl l f).ctrl m).lists) = fun m => (s.ctrl m).lists := funext fun m => by
    rw [ctrl_onCtrl]
    split
    next hm => exact hm ▸ h
    next => rfl
  simp only [State.books, hlists]
  rfl

/-- A RELEASED entry stands in no Order List, so its freeing leaves the order heads. -/
theorem collectionsListed_freeEntry_of_released {i : XtIx} {x : Exchange} (hs : s.CollectionsListed q)
    (hx : s.exchange i = some x) (hreleased : s.releasedAt i = true) (o : Option Position) :
    (s.freeEntry i x o).CollectionsListed q where
  orders := ordersListed_freeEntry o hs.orders hx
  queues := queuesListed_freeEntry o hx hs.queues
  heads := by
    have hi (l : CtrlIx) : i ∉ (s.ctrl l).orderList := fun h => by
      have horders := hs.orders.mem_orderList.mp h
      rw [State.ordersOn, hreleased, Bool.not_true, Bool.and_false] at horders
      cases horders
    refine headsUnheld_of_orderList_eq hs.heads (fun l => ?_) fun l j _ hheld => ?_
    · exact (congrArg Prod.fst (lists_freeEntry o hs.orders hx l)).trans (filter_ne_of_not_mem (hi l))
    · rw [isHeldAt_eq, exchangeIs_freeEntry, ← isHeldAt_eq, hheld, Bool.false_and]

theorem collectionsListed_respSent (hs : s.CollectionsListed q) (l : CtrlIx) : (s.respSent l).CollectionsListed q := by
  have hended : (s.onCtrl l (·.onLink (·.endSend))).CollectionsListed q :=
    collectionsListed_of_books_eq (books_onCtrl rfl) hs
  unfold State.respSent
  dsimp only
  split
  next i rest hq =>
    have hreleased := (Bool.and_eq_true_iff.mp ((hended.orders.mem l i).mp (hq ▸ List.mem_cons_self))).2
    split
    next x hx => exact collectionsListed_freeEntry_of_released hended hx hreleased none
    next => exact hended
  next => exact hended

/-! ## A link is torn down (R105) -/

theorem listed_tearDownOne (hs : s.OrdersListed q ∧ s.QueuesListed) (l : CtrlIx) (i : XtIx) :
    (s.tearDownOne l i).OrdersListed q ∧ (s.tearDownOne l i).QueuesListed := by
  by_cases hown : ∃ x, s.exchange i = some x ∧ x.id.link = l
  · obtain ⟨x, hx, hl⟩ := hown
    obtain ⟨horders, hqueues⟩ := hs
    have hbooks := books_queueCancel s (s.relayTag i) x
    have hx' := (exchange_of_books_eq hbooks i).trans hx
    rw [tearDownOne_of_own hx hl]
    exact ⟨ordersListed_freeEntry _ (ordersListed_of_books_eq hbooks horders) hx',
      queuesListed_freeEntry _ hx' (queuesListed_of_books_eq hbooks hqueues)⟩
  · rwa [tearDownOne_of_not_own fun x hx hl => hown ⟨x, hx, hl⟩]

theorem listed_tearDownList (hs : s.OrdersListed q ∧ s.QueuesListed) (l : CtrlIx) (is : List XtIx) :
    (s.tearDownList l is).OrdersListed q ∧ (s.tearDownList l is).QueuesListed :=
  List.foldlRecOn (motive := fun u : State => u.OrdersListed q ∧ u.QueuesListed) is _ hs
    fun _ hu i _ => listed_tearDownOne hu l i

/-- The lists of a link without live exchanges are empty. -/
theorem lists_of_not_linkedTo (hs : s.OrdersListed q) {l : CtrlIx} (h : ∀ j, s.linkedTo l j = false) :
    (s.ctrl l).lists = ([], []) := by
  refine Prod.ext (List.eq_nil_iff_forall_not_mem.mpr fun j hj => ?_)
    (List.eq_nil_iff_forall_not_mem.mpr fun j hj => ?_)
  · have horders := hs.mem_orderList.mp hj
    rw [State.ordersOn, h j, Bool.false_and, Bool.false_and] at horders
    cases horders
  · have hreleased := (hs.mem l j).mp hj
    rw [h j, Bool.false_and] at hreleased
    cases hreleased

theorem headsUnheld_tornDown (hs : s.OrdersListed q) (hheads : s.HeadsUnheld) (l : CtrlIx) :
    (s.tornDown l).HeadsUnheld := by
  intro m j hj
  by_cases hm : m = l
  · rw [hm, ctrl_tornDown_self] at hj
    cases hj
  · rw [ctrl_tornDown_ne s hm] at hj
    have hnot : ∀ x, s.exchange j = some x → x.id.link ≠ l := fun x hx hl =>
      hm ((link_of_mem_orderList hs hx (List.mem_of_mem_head? hj)).1.symm.trans hl)
    rw [isHeldAt_of_entry_eq (entry_tornDown_of_not_own hnot)]
    exact hheads m j hj

theorem collectionsListed_tornDown (hs : s.CollectionsListed q) (l : CtrlIx) : (s.tornDown l).CollectionsListed q := by
  have hleft : (s.leftUp l).books = s.books := books_onCtrl (s := s.withWaiting _) rfl
  obtain ⟨horders, hqueues⟩ := listed_tearDownList
    ⟨ordersListed_of_books_eq hleft hs.orders, queuesListed_of_books_eq hleft hs.queues⟩ l s.admissionOrder
  have hgone : ∀ j, ((s.leftUp l).tearDownList l s.admissionOrder).linkedTo l j = false := fun j => by
    refine Bool.eq_false_iff.mpr fun hj => ?_
    obtain ⟨x, hx, hl⟩ := exchangeIs_eq_true_iff.mp hj
    exact (gone_tornDown hs.orders.admission l j x hx).1 (beq_iff_eq.mp hl)
  have hempty : (s.tornDown l).books = ((s.leftUp l).tearDownList l s.admissionOrder).books :=
    books_onCtrl (lists_of_not_linkedTo horders hgone).symm
  exact {
    orders := ordersListed_of_books_eq hempty horders
    queues := queuesListed_of_books_eq hempty hqueues
    heads := headsUnheld_tornDown hs.orders hs.heads l }

/-! ## Every step -/

theorem collectionsListed_keptByChanges (q : Prop) : KeptByChanges (State.CollectionsListed q) where
  books := collectionsListed_of_books_eq
  reset strap := collectionsListed_iff.mpr ⟨collectionsOk_resetWith strap, fun _ => orderLawOk_resetWith strap⟩
  admitCmd := collectionsListed_admitCmd
  issueExchange i pool hs := collectionsListed_issueExchange hs i pool
  reposition hs hx hpos hpos' := collectionsListed_setPhase hs hx hpos hpos'
  endExchange r orphan hs hx hlive := collectionsListed_endExchange hx r orphan hs hlive
  respSent l hs := collectionsListed_respSent hs l
  tornDown l hs := collectionsListed_tornDown hs l
  restartAll := collectionsListed_restartAll

/-- Settles O57: the collections are kept in order together with the order law, where that held before the step. -/
theorem stepKeepsCollections : Obligations.StepKeepsCollections := by
  intro s t hs hstep
  have hlisted : s.CollectionsListed s.orderLawOk := collectionsListed_iff.mpr ⟨hs, id⟩
  exact collectionsListed_iff.mp ((collectionsListed_keptByChanges s.orderLawOk).keptByOperations.step hlisted hstep)

end Sys2Proof.Machine
end
